-- ==== Sys2Proof/Word.lean ====
section
/-!
DEFINITION. The numbers and words of the TV-480: the stack geometry of 00_scope.md Table 0-3 as bounded types, bytes, and the burst of
64 data bytes and 8 check bytes.
-/
namespace Sys2Proof

/-- One byte of a frame or of a fuse slot. -/
abbrev Byte := BitVec 8

/-- Bank number 0..47 (00 Table 0-3). -/
abbrev Bank := Fin 48

/-- Logical row of a bank, 0..32767 (00 Table 0-3). -/
abbrev LRow := Fin 32768

/-- Physical row of a bank, 0..32775: main strip 0..32767, spare strip 32768..32775 (00 Table 0-3). -/
abbrev PRow := Fin 32776

/-- Spare of a bank, 0..7 (00 Table 0-3). -/
abbrev Spare := Fin 8

/-- Column of a row, 0..63: one burst (00 Table 0-3). -/
abbrev Col := Fin 64

/-- Chunk of a row, 0..7: columns 8k..8k+7 (00 Table 0-3). -/
abbrev Chunk := Fin 8

/-- Order tag 0..63 (R51). -/
abbrev Tag := Fin 64

/-- Fuse slot number 0..63 (R138). -/
abbrev FuseNo := Fin 64

/-- An 8-byte data word with the check byte that protects it (00, Check code). -/
structure CodeWord where
  data  : BitVec 64
  check : BitVec 8
  deriving DecidableEq, Repr

/-- A burst: 8 data words, each with its check byte (00 Table 0-3). -/
abbrev Burst := Vector CodeWord 8

/-- The seven bytes of a fuse slot (11 Table 11-8). -/
abbrev FuseBytes := Vector Byte 7

end Sys2Proof
end

