-- ==== Sys2Proof/Config.lean ====
section
/-!
DEFINITION. What is fixed for the machine, and its free values. The settings that SET changes are state, not configuration (R167).
-/
namespace Sys2Proof.Config

/-- A byte that a response read returns while RESET_N is low: "no frame content that the service processor can rely on" (R169). A free
value: nothing is known of it (log 8). The argument is `State.freeCount`, advanced at each byte. -/
opaque freeByte : Nat → BitVec 8

/-- The most orders the intake holds (R52). -/
def heldLimit : Nat := 32

/-- The most jobs the migration queue holds (R70). -/
def migrationQueueLimit : Nat := 8

/-- The debt limit, at which a bank is forced (R112). -/
def debtLimit : Nat := 12

/-- The last sweep slot, which refreshes the spare strip (R109). -/
def lastSweepSlot : Nat := 4096

/-- The most rows a target queue holds (R98). -/
def targetQueueLimit : Nat := 4

/-- The most records the suspect list holds (R124). -/
def suspectLimit : Nat := 32

/-- What a burst of the stack holds that nothing has written since power-on: eight zero words with zero check bytes.
DESIGN CHOICE (log 5), unsafe: the spec gives no contents. -/
def unwrittenBurst : Burst := Vector.replicate 8 { data := 0, check := 0 }

/-- What a fuse slot holds before any programming: "An unprogrammed fuse reads 0" (11, Fuse slot). That no fuse is programmed in
`State.reset` is a DESIGN CHOICE (log 4). -/
def blankFuses : FuseBytes := Vector.replicate 7 0

end Sys2Proof.Config
end

