-- ==== Sys2Proof/Syntax.lean ====
section
/-!
DEFINITION. The commands of the TV-480: one constructor of `Instr` for each row of spec/opcode_table.json, and the orders and requests
that the frames among them carry.
-/
namespace Sys2Proof

/-- Kind of a REPORT (R51). -/
inductive ReportKind where
  | corrected
  | uncorrected
  deriving DecidableEq, Repr

/-- The part of an order that a bank unit serves (R51, Table 3-3). -/
inductive BankOp where
  | opn (row : LRow)
  | read (col : Col)
  | write (col : Col) (burst : Burst)
  | close
  | refresh
  deriving DecidableEq, Repr

/-- A well-formed order (R51): one for a bank unit, or a REPORT for the suspect list. -/
inductive Order where
  | bank (tag : Tag) (bank : Bank) (op : BankOp)
  | report (tag : Tag) (bank : Bank) (row : LRow) (kind : ReportKind)
  deriving DecidableEq, Repr

/-- A request of Table 9-1 with its fields as the frame carries them (11, Request frame). -/
inductive Request where
  | status
  | lookup (bank : Byte) (row : BitVec 16)
  | list (bank : Byte)
  | bank (bank : Byte)
  | steer (bank : Byte) (row : BitVec 16)
  | release (bank : Byte) (row : BitVec 16)
  | seal (bank : Byte) (row : BitVec 16)
  | void (bank spare flag : Byte)
  | suspects
  | forget (bank : Byte) (row : BitVec 16)
  | forgetAll
  | fuse (slot : Byte)
  | set (item : Byte) (value : BitVec 16)
  | get (item : Byte)
  | noticeTop
  | noticeAck (kind : Byte)
  | mask (kind setting : Byte)
  deriving DecidableEq, Repr

/-- What the service port is given, and whether the response is still being made ready when the step ends, so that the port is left
SERVING (R153; log 20). -/
structure Served (α : Type) where
  given : α
  late : Bool
  deriving DecidableEq, Repr

/-- How far the row operations in progress had come when RESET_N fell (log 23): of a COPY or FINAL job the first `jobSteps` row operations
are done, and `refreshes` gives for a bank how many row refreshes of its sweep slot or of the aggressor being serviced are done, none where
it names no number. -/
structure Progress where
  jobSteps : Nat
  refreshes : List (Bank × Nat)
  deriving DecidableEq, Repr

/-- The commands, one constructor for each row of the opcode table. Operands: `rest` is the frame's bytes after the kind byte, and `xn` the
exchange number of a request; each other operand is said at its constructor (log 1). -/
inductive Instr where
  /-- OPEN (R52): an OPEN frame arrives. -/
  | orderOpen (rest : List Byte)
  /-- READ (R52): a READ frame arrives. -/
  | orderRead (rest : List Byte)
  /-- WRITE (R52): a WRITE frame arrives. -/
  | orderWrite (rest : List Byte)
  /-- CLOSE (R52): a CLOSE frame arrives. -/
  | orderClose (rest : List Byte)
  /-- REFRESH (R52): a REFRESH frame arrives. -/
  | orderRefresh (rest : List Byte)
  /-- REPORT (R52): a REPORT frame arrives. -/
  | orderReport (rest : List Byte)
  /-- UNKNOWN_ORDER_FRAME (R176): any other frame arrives; its whole bytes. -/
  | unknownOrderFrame (frame : List Byte)
  /-- LINK_RESET (R66): `sending` says that the intake had begun to send the head of the outbound queue (log 17). -/
  | linkReset (rest : List Byte) (sending : Bool)
  /-- OUTBOUND_SEND (R58). -/
  | outboundSend
  /-- HEAD_OPEN (R31). -/
  | headOpen (bank : Bank)
  /-- HEAD_READ (R32). -/
  | headRead (bank : Bank)
  /-- HEAD_WRITE (R33). -/
  | headWrite (bank : Bank)
  /-- HEAD_CLOSE (R34). -/
  | headClose (bank : Bank)
  /-- HEAD_REFRESH (R35). -/
  | headRefresh (bank : Bank)
  /-- ORDER_COMPLETION (R30). -/
  | orderCompletion (bank : Bank)
  /-- BANK_ARBITER_CHOICE (R38): `beforeClaim` says that the choice comes before a migration claim placed at the job end that led to
  this choice is present (02 section 2.11; log 10). -/
  | bankArbiterChoice (bank : Bank) (beforeClaim : Bool)
  /-- CHUNK_JOB_END (R78). -/
  | chunkJobEnd
  /-- FINAL_JOB_END (R83). -/
  | finalJobEnd
  /-- TICK (R112): the tick reaches the banks of `first` in that order and then every other bank in ascending order (log 14). -/
  | tick (first : List Bank)
  /-- SLOT_COMPLETION (R110). -/
  | slotCompletion (bank : Bank)
  /-- TARGET_SERVICE_END (R101). -/
  | targetServiceEnd (bank : Bank)
  /-- REPORT_TAKE (R126). -/
  | reportTake
  /-- STATUS (R157). -/
  | status (xn : Served Byte)
  /-- LOOKUP (R158). -/
  | lookup (xn : Served Byte) (bank : Byte) (row : BitVec 16)
  /-- LIST (R159). -/
  | listBank (xn : Served Byte) (bank : Byte)
  /-- BANK (R160). -/
  | bankState (xn : Served Byte) (bank : Byte)
  /-- STEER (R162). -/
  | steer (xn : Served Byte) (bank : Byte) (row : BitVec 16)
  /-- RELEASE (R163). -/
  | release (xn : Served Byte) (bank : Byte) (row : BitVec 16)
  /-- SEAL (R164). -/
  | sealRow (xn : Served Byte) (bank : Byte) (row : BitVec 16)
  /-- VOID (R165). -/
  | voidSpare (xn : Served Byte) (bank spare flag : Byte)
  /-- SUSPECTS (R161). -/
  | suspects (xn : Served Byte)
  /-- FORGET (R166). -/
  | forget (xn : Served Byte) (bank : Byte) (row : BitVec 16)
  /-- FORGET_ALL (R166). -/
  | forgetAll (xn : Served Byte)
  /-- FUSE (R161). -/
  | fuse (xn : Served Byte) (slot : Byte)
  /-- SET (R167). -/
  | setItem (xn : Served Byte) (item : Byte) (value : BitVec 16)
  /-- GET (R167). -/
  | getItem (xn : Served Byte) (item : Byte)
  /-- NOTICE_TOP (R174). -/
  | noticeTop (xn : Served Byte)
  /-- NOTICE_ACK (R175). -/
  | noticeAck (xn : Served Byte) (kind : Byte)
  /-- MASK (R172). -/
  | maskKind (xn : Served Byte) (kind setting : Byte)
  /-- UNKNOWN_REQUEST (R155): a completed frame that is none of the above; its whole bytes. -/
  | unknownRequest (frame : Served (List Byte))
  /-- REQUEST_FRAME_DISCARDED (R177): the bytes clocked in before the frame was dropped. -/
  | requestFrameDiscarded (bytes : List Byte)
  /-- RESPONSE_READ (R153): `clocked` bytes are clocked out before select is deasserted (R177). -/
  | responseRead (clocked : Served Nat)
  /-- PROGRAMMING_END (R143): the seven bytes the readback reads (log 22). -/
  | programmingEnd (readback : FuseBytes)
  /-- LOAD_SLOT_READ (R147): `none` when the slot reads as the array holds it, or what weak fuses make it read (log 22). -/
  | loadSlotRead (weak : Option FuseBytes)
  /-- LOADING_PRECHARGE_DONE (R47). -/
  | loadingPrechargeDone (bank : Bank)
  /-- PART_RESET (R146): how far work in progress had come (log 23): of bytes 1..5 of a fuse slot being programmed the first
  `fuseBytes` are whole and the next holds the fuses of `fuseMask`; of jobs and refreshes, `progress` is done. -/
  | partReset (fuseBytes : Nat) (fuseMask : Byte) (progress : Progress)
  /-- PART_RESET_RELEASE (R146). -/
  | partResetRelease
  /-- AGGRESSOR_SERVICED (R101). -/
  | aggressorServiced (bank : Bank)
  deriving DecidableEq, Repr

end Sys2Proof
end

