-- ==== Sys2Proof/Decode.lean ====
section
/-!
DEFINITION. Reading frames: the order link's frames (11 Table 11-1, R53, R176) and the service port's request frames (11 Table 11-3 and
Table 11-4, R177), total on any bytes, with the frame writers beside them; and `decodeTableWord` over the opcode table, whose rows
give no bits.
-/
namespace Sys2Proof

/-- The number `v` as one below `n`, where it is. -/
def toFin? (n v : Nat) : Option (Fin n) :=
  if h : v < n then some ⟨v, h⟩ else none

/-- Two bytes, most significant first (11). -/
def be16 (hi lo : Byte) : BitVec 16 := hi ++ lo

/-- The high byte of a 16-bit field. -/
def hi8 (v : BitVec 16) : Byte := v.extractLsb' 8 8

/-- The low byte of a 16-bit field. -/
def lo8 (v : BitVec 16) : Byte := v.extractLsb' 0 8

/-- A number in one byte. -/
def byteOf (n : Nat) : Byte := BitVec.ofNat 8 n

/-- A number in two bytes, most significant first (11). -/
def twoBytes (n : Nat) : List Byte := [byteOf (n / 256), byteOf n]

/-- A flag in one byte. -/
def flagByte (b : Bool) : Byte := if b then 1 else 0

/-- Eight bytes as a data word, the first byte the most significant (R180). -/
def wordOfBytes (l : List Byte) : BitVec 64 :=
  l.foldl (fun acc b => (acc <<< 8) ||| b.setWidth 64) 0

/-- A data word as eight bytes, the most significant first (R180). -/
def bytesOfWord (w : BitVec 64) : List Byte :=
  [w.extractLsb' 56 8, w.extractLsb' 48 8, w.extractLsb' 40 8, w.extractLsb' 32 8,
   w.extractLsb' 24 8, w.extractLsb' 16 8, w.extractLsb' 8 8, w.extractLsb' 0 8]

/-- The burst carried by 64 data bytes and 8 check bytes; check byte i protects data bytes 8i..8i+7 (11, Order Link Frames). -/
def burstOfBytes (l : List Byte) : Burst :=
  Vector.ofFn fun i : Fin 8 => { data := wordOfBytes ((l.drop (8 * i.val)).take 8), check := l.getD (64 + i.val) 0 }

/-- The 64 data bytes and 8 check bytes of a burst (11, Order Link Frames). -/
def bytesOfBurst (b : Burst) : List Byte :=
  b.toList.flatMap (fun w => bytesOfWord w.data) ++ b.toList.map (fun w => w.check)

/-! ### Orders -/

/-- A logical row field: 16 bits with bit 15 clear (R53, R176). -/
def rowField (hi lo : Byte) : Option LRow := toFin? 32768 (be16 hi lo).toNat

/-- Table 11-1: the kind byte of OPEN. -/
def kindOpen : Byte := 0x01
/-- Table 11-1: the kind byte of READ. -/
def kindRead : Byte := 0x02
/-- Table 11-1: the kind byte of WRITE. -/
def kindWrite : Byte := 0x03
/-- Table 11-1: the kind byte of CLOSE. -/
def kindClose : Byte := 0x04
/-- Table 11-1: the kind byte of REFRESH. -/
def kindRefresh : Byte := 0x05
/-- Table 11-1: the kind byte of REPORT. -/
def kindReport : Byte := 0x06
/-- Table 11-1: the kind byte of LINK_RESET. -/
def kindLinkReset : Byte := 0x0F

/-- The fields after the tag of an order for a bank unit. The byte count is Table 11-1's; a bank byte of 48 or more and a column byte of
64 or more are malformed, set high bits included (R53, R176). -/
def parseBankOp (kind : Byte) (fields : List Byte) : Option (Bank × BankOp) :=
  if kind = kindOpen then
    match fields with
    | [b, hi, lo] => do return (← toFin? 48 b.toNat, .opn (← rowField hi lo))
    | _ => none
  else if kind = kindRead then
    match fields with
    | [b, c] => do return (← toFin? 48 b.toNat, .read (← toFin? 64 c.toNat))
    | _ => none
  else if kind = kindWrite then
    match fields with
    | b :: c :: payload =>
      if payload.length = 72 then do return (← toFin? 48 b.toNat, .write (← toFin? 64 c.toNat) (burstOfBytes payload)) else none
    | _ => none
  else if kind = kindClose then
    match fields with
    | [b] => do return (← toFin? 48 b.toNat, .close)
    | _ => none
  else if kind = kindRefresh then
    match fields with
    | [b] => do return (← toFin? 48 b.toNat, .refresh)
    | _ => none
  else none

/-- The report kind byte (Table 11-1). -/
def parseReportKind (k : Byte) : Option ReportKind :=
  if k = 1 then some .corrected else if k = 2 then some .uncorrected else none

/-- The order of a frame whose kind byte is `kind` and whose further bytes are `rest`; `none` when it is malformed (R53, R176). -/
def parseOrder (kind : Byte) (rest : List Byte) : Option Order :=
  match rest with
  | [] => none
  | t :: fields =>
    if kind = kindReport then
      match fields with
      | [b, hi, lo, k] => do
        return .report (← toFin? 64 t.toNat) (← toFin? 48 b.toNat) (← rowField hi lo) (← parseReportKind k)
      | _ => none
    else do
      let tag ← toFin? 64 t.toNat
      let (b, op) ← parseBankOp kind fields
      return .bank tag b op

/-- The tag of any frame of two bytes or more: the low six bits of byte 1 (R176). -/
def frameTag (t : Byte) : Tag := ⟨(t.extractLsb' 0 6).toNat, (t.extractLsb' 0 6).isLt⟩

/-- The bank part of an ORDER_FAULT subject: the low six bits of the bank byte when they hold 0..47 and the kind has a bank field (R54).
DESIGN CHOICE for a frame too short or with set high bits (log 18). -/
def faultBank (kind : Byte) (fields : List Byte) : Option Bank :=
  if 1 ≤ kind.toNat ∧ kind.toNat ≤ 6 then
    match fields with
    | b :: _ => toFin? 48 (b.extractLsb' 0 6).toNat
    | [] => none
  else none

/-- The row part of an ORDER_FAULT subject: the row of an OPEN or REPORT that holds 0..32767 (R54; log 18). -/
def faultRow (kind : Byte) (fields : List Byte) : Option LRow :=
  if kind = kindOpen ∨ kind = kindReport then
    match fields with
    | _ :: hi :: lo :: _ => rowField hi lo
    | _ => none
  else none

/-- The bytes after the kind byte of a bank order's frame (Table 11-1). -/
def bankOpFields : BankOp → List Byte
  | .opn r => twoBytes r.val
  | .read c => [byteOf c.val]
  | .write c burst => byteOf c.val :: bytesOfBurst burst
  | .close => []
  | .refresh => []

/-- The kind byte of a bank order (Table 11-1). -/
def bankOpKind : BankOp → Byte
  | .opn _ => kindOpen
  | .read _ => kindRead
  | .write _ _ => kindWrite
  | .close => kindClose
  | .refresh => kindRefresh

/-- The report kind byte (Table 11-1). -/
def reportKindByte : ReportKind → Byte
  | .corrected => 1
  | .uncorrected => 2

/-- The kind byte of an order's frame (Table 11-1). -/
def orderKind : Order → Byte
  | .bank _ _ op => bankOpKind op
  | .report _ _ _ _ => kindReport

/-- The bytes after the kind byte of an order's frame (Table 11-1). -/
def orderRest : Order → List Byte
  | .bank t b op => byteOf t.val :: byteOf b.val :: bankOpFields op
  | .report t b r k => byteOf t.val :: byteOf b.val :: (twoBytes r.val ++ [reportKindByte k])

/-! ### Requests -/

/-- The request code (Table 11-4). -/
def Request.code : Request → Byte
  | .status => 0x01
  | .lookup _ _ => 0x02
  | .list _ => 0x03
  | .bank _ => 0x04
  | .steer _ _ => 0x05
  | .release _ _ => 0x06
  | .seal _ _ => 0x07
  | .void _ _ _ => 0x08
  | .suspects => 0x09
  | .forget _ _ => 0x0A
  | .forgetAll => 0x0B
  | .fuse _ => 0x0C
  | .set _ _ => 0x0D
  | .get _ => 0x0E
  | .noticeTop => 0x0F
  | .noticeAck _ => 0x10
  | .mask _ _ => 0x11

/-- A row or value field as two bytes (11, Request frame). -/
def fieldBytes (v : BitVec 16) : List Byte := [hi8 v, lo8 v]

/-- The field bytes of a request, in the order of Table 9-1 (11, Request frame). -/
def Request.fields : Request → List Byte
  | .status => []
  | .lookup b r => b :: fieldBytes r
  | .list b => [b]
  | .bank b => [b]
  | .steer b r => b :: fieldBytes r
  | .release b r => b :: fieldBytes r
  | .seal b r => b :: fieldBytes r
  | .void b s f => [b, s, f]
  | .suspects => []
  | .forget b r => b :: fieldBytes r
  | .forgetAll => []
  | .fuse n => [n]
  | .set i v => i :: fieldBytes v
  | .get i => [i]
  | .noticeTop => []
  | .noticeAck k => [k]
  | .mask k m => [k, m]

/-- The changing requests (09, under Table 9-1). -/
def Request.changing : Request → Bool
  | .steer _ _ | .release _ _ | .seal _ _ | .void _ _ _ | .forget _ _ | .forgetAll | .set _ _ | .noticeAck _ | .mask _ _ => true
  | .status | .lookup _ _ | .list _ | .bank _ | .suspects | .fuse _ | .get _ | .noticeTop => false

/-- A request frame with its exchange number (Table 11-3). -/
def requestFrame (xn : Byte) (r : Request) : List Byte :=
  r.code :: xn :: byteOf r.fields.length :: r.fields

/-- The request of a code and field bytes; `none` for a code outside Table 11-4 or a field count that differs from it (R177). -/
def parseFields (code : Byte) (fields : List Byte) : Option Request :=
  match code.toNat, fields with
  | 0x01, [] => some .status
  | 0x02, [b, h, l] => some (.lookup b (be16 h l))
  | 0x03, [b] => some (.list b)
  | 0x04, [b] => some (.bank b)
  | 0x05, [b, h, l] => some (.steer b (be16 h l))
  | 0x06, [b, h, l] => some (.release b (be16 h l))
  | 0x07, [b, h, l] => some (.seal b (be16 h l))
  | 0x08, [b, s, f] => some (.void b s f)
  | 0x09, [] => some .suspects
  | 0x0A, [b, h, l] => some (.forget b (be16 h l))
  | 0x0B, [] => some .forgetAll
  | 0x0C, [n] => some (.fuse n)
  | 0x0D, [i, h, l] => some (.set i (be16 h l))
  | 0x0E, [i] => some (.get i)
  | 0x0F, [] => some .noticeTop
  | 0x10, [k] => some (.noticeAck k)
  | 0x11, [k, m] => some (.mask k m)
  | _, _ => none

/-- A request frame read by code, field length byte and byte count (R177): too short to be answered (`none`), or the code, the exchange
number and the request, where the frame is one of Table 11-4. -/
def parseRequestFrame : List Byte → Option (Byte × Byte × Option Request)
  | code :: xn :: n :: fields =>
    some (code, xn, if n.toNat = fields.length then parseFields code fields else none)
  | _ => none

/-! ### The opcode table -/

/-- The command that a word spells by the opcode table's bits. No row of the table gives bits, so no word spells one. -/
def decodeTableWord (_nbits _w : Nat) : Option Instr := none

end Sys2Proof
end

