-- ==== Sys2Proof/WellFormed.lean ====
section
/-!
DEFINITION. Which terms of `Instr` are the events their rows describe. `exec` gives every term a meaning; a claim may ask for
well-formed ones.
-/
namespace Sys2Proof

/-- An order frame of a known kind carries at least its tag byte; a frame of one byte is an UNKNOWN_ORDER_FRAME (R176). -/
def orderBytesOk (rest : List Byte) : Bool := !rest.isEmpty

/-- A frame of the row UNKNOWN_ORDER_FRAME: not LINK_RESET, and of an unknown kind or of one byte (R176). -/
def unknownFrameOk : List Byte → Bool
  | [] => false
  | k :: rest => k != kindLinkReset && (rest.isEmpty || k.toNat = 0 || 6 < k.toNat)

/-- A frame of the row UNKNOWN_REQUEST: at least three bytes and none of Table 11-4 (R155, R177). -/
def unknownRequestOk (f : List Byte) : Bool :=
  match parseRequestFrame f with
  | some (_, _, none) => true
  | _ => false

/-- The well-formed commands. -/
def Instr.wellFormed : Instr → Bool
  | .orderOpen r | .orderRead r | .orderWrite r | .orderClose r | .orderRefresh r | .orderReport r => orderBytesOk r
  | .unknownOrderFrame f => unknownFrameOk f
  | .unknownRequest f => unknownRequestOk f.given
  | .tick first => decide first.Nodup
  | .responseRead n => decide (0 < n.given)
  | .partReset k _ p => decide (k ≤ 5) && decide (p.jobSteps ≤ 160) && decide (p.refreshes.map Prod.fst).Nodup
      && p.refreshes.all fun x => decide (x.2 ≤ 8)
  | .linkReset _ _ | .outboundSend | .headOpen _ | .headRead _ | .headWrite _ | .headClose _ | .headRefresh _ | .orderCompletion _
  | .bankArbiterChoice _ _ | .chunkJobEnd | .finalJobEnd | .slotCompletion _ | .targetServiceEnd _ | .reportTake | .status _
  | .lookup _ _ _ | .listBank _ _ | .bankState _ _ | .steer _ _ _ | .release _ _ _ | .sealRow _ _ _ | .voidSpare _ _ _ _
  | .suspects _ | .forget _ _ _ | .forgetAll _ | .fuse _ _ | .setItem _ _ _ | .getItem _ _ | .noticeTop _
  | .noticeAck _ _ | .maskKind _ _ _ | .requestFrameDiscarded _ | .programmingEnd _ | .loadSlotRead _ | .loadingPrechargeDone _
  | .partResetRelease | .aggressorServiced _ => true

end Sys2Proof
end

