-- ==== Sys2Proof/Machine/State.lean ====
section
/-!
DEFINITION. Everything the spec says the TV-480 holds, as plain data, and its value after a part reset. Each field's docstring names the
rule that gives it.
-/
namespace Sys2Proof.Machine

/-! ### Bank units -/

/-- Kind of the internal job that holds a bank (R28, Table 2-2). -/
inductive JobKind where
  | sweep | forced | copy | switch | final
  deriving DecidableEq, Repr

/-- Kind of a migration claim (R28, R74). -/
inductive ClaimKind where
  | copy | switch | final
  deriving DecidableEq, Repr

/-- Shadow state of a bank: CLOSED, OPEN on a logical and a physical row, or CLAIMED by a job (R28, R29). -/
inductive Shadow where
  | closed
  | opened (row : LRow) (phys : PRow)
  | claimed (job : JobKind)
  deriving DecidableEq, Repr

/-- Reject reasons (Table 3-4). -/
inductive Reason where
  | notReady | full | tagInUse | malformed | bankOpen | noRow | revoked
  deriving DecidableEq, Repr

/-- What a reply says (R57). -/
inductive ReplyBody where
  | done
  | data (burst : Burst)
  | reject (reason : Reason)
  deriving DecidableEq, Repr

/-- A held order in a lane: its tag and what it asks of the bank (R30, R51). -/
structure LaneOrder where
  tag : Tag
  op  : BankOp
  deriving DecidableEq, Repr

/-- The order in progress of a bank unit (R30): a READ or WRITE with the reply it will hand, or a REFRESH whose SWEEP job runs (R35). -/
inductive InProgress where
  | burst (reply : ReplyBody)
  | sweeping
  deriving DecidableEq, Repr

/-! ### Steering table -/

/-- Origin of a record (Table 1-1). -/
inductive Origin where
  | managed | auto | restored
  deriving DecidableEq, Repr

/-- State of a record with the optional fields that Table 1-2 gives it: `migrating none` is a first steer, `migrating (some (f, r))` a
re-steer from spare f with retire-old r; a seal slot stands in SEALING and SEALED only (R2). -/
inductive RecState where
  | migrating (old : Option (Spare × Bool))
  | steered
  | sealing (slot : FuseNo)
  | fused (slot : FuseNo)
  | returning
  deriving DecidableEq, Repr

/-- A steering record (R1). Its bank is the bank whose slot it stands in and its spare is the number of that slot (R3). `fused` above is
the spec's SEALED. -/
structure Rec where
  row    : LRow
  state  : RecState
  origin : Origin
  poison : Nat
  deriving DecidableEq, Repr

/-- State of a spare (R4). -/
inductive SpareState where
  | free
  | held
  | bad (voidSealed : Bool)
  deriving DecidableEq, Repr

/-! ### Tracker and refresh -/

/-- An entry of a disturbance tracker (R91). -/
structure TrackEntry where
  row   : PRow
  count : Nat
  deriving DecidableEq, Repr

/-- A target service in progress (R101): how many more aggressors it may take, and the aggressor being serviced with the reach read for
it. -/
structure Service where
  left    : Nat
  current : Option (PRow × Nat)
  deriving DecidableEq, Repr

/-- All the state the part keeps for one bank: its bank unit (Table 2-1), its refresh state (Table 6-1), its tracker and target queue
(R91, R98), and its part of the steering table (R3, R4). -/
structure BankState where
  /-- R28. -/
  shadow     : Shadow
  /-- R28, R30: head first. -/
  lane       : List LaneOrder
  /-- R28, R30: the head of the lane, when begun. -/
  inProgress : Option InProgress
  /-- R28, R42. -/
  revoked    : Bool
  /-- R28, R38. -/
  passover   : Nat
  /-- R28, R39. -/
  forced     : Bool
  /-- R28, R39. -/
  migClaim   : Option ClaimKind
  /-- The model's own: the migration claim was placed on the CLOSED bank and no choice has been made since (log 10). -/
  claimNew   : Bool
  /-- R46, R68: the bank unit has reported closed in this link reset. -/
  reported   : Bool
  /-- R47, R149: the bank unit has precharged its bank in this load. -/
  precharged : Bool
  /-- R108: the sweep pointer. -/
  pointer    : Nat
  /-- R108. -/
  debt       : Nat
  /-- R108: the NEED state. -/
  need       : Bool
  /-- R108: the slot in progress. -/
  slot       : Option Nat
  /-- R101. -/
  service    : Option Service
  /-- R91. -/
  tracker    : Vector (Option TrackEntry) 6
  /-- R98: head first. -/
  targets    : List PRow
  /-- R3: slot d holds the record whose spare is d. -/
  records    : Vector (Option Rec) 8
  /-- R4. -/
  spares     : Vector SpareState 8
  deriving DecidableEq, Repr

/-! ### Order intake -/

/-- Link state (R49). -/
inductive LinkState where
  | down | resetting | up
  deriving DecidableEq, Repr

/-- A REPORT waiting in the report lane (R61). -/
structure Report where
  tag  : Tag
  bank : Bank
  row  : LRow
  kind : ReportKind
  deriving DecidableEq, Repr

/-- A message of the outbound queue (R58). A reply names the bank whose unit handed it, or none when the suspect list did. -/
inductive OutMsg where
  | reply (tag : Tag) (source : Option Bank) (body : ReplyBody)
  | intakeReject (tag : Tag) (reason : Reason)
  | ready
  | need (bank : Bank)
  | lost (bank : Bank)
  deriving DecidableEq, Repr

/-! ### Migration engine -/

/-- The engine's states with an active job (Table 4-2); IDLE is having none. -/
inductive Phase where
  | copying | recopying | switching | final
  deriving DecidableEq, Repr

/-- Kind of the active job (Table 4-1). -/
inductive MoveKind where
  | move | ret
  deriving DecidableEq, Repr

/-- The engine's state and active migration context (R72, R73). -/
structure Active where
  phase      : Phase
  bank       : Bank
  row        : LRow
  kind       : MoveKind
  source     : PRow
  dest       : PRow
  cursor     : Nat
  mask       : Vector Bool 8
  passPos    : Option Chunk
  passesDone : Nat
  abort      : Bool
  corrected  : Nat
  poisoned   : Nat
  deriving DecidableEq, Repr

/-- One burst of the chunk buffer (R75): 64 data bytes and the mark that it is to be written with the poison pattern. -/
structure BufBurst where
  data   : Vector (BitVec 64) 8
  poison : Bool
  deriving DecidableEq, Repr

/-! ### Suspect list -/

/-- A suspect record (R124). -/
structure Suspect where
  bank        : Bank
  row         : LRow
  corrected   : Nat
  uncorrected : Nat
  flagged     : Bool
  deriving DecidableEq, Repr

/-! ### Fuse store -/

/-- An entry of the fuse store (R138). -/
inductive FuseEntry where
  | row (bank : Bank) (row : LRow) (spare : Spare)
  | void (bank : Bank) (spare : Spare)
  deriving DecidableEq, Repr

/-- The image of a slot (R138). -/
inductive Image where
  | blank
  | entry (e : FuseEntry)
  | spoiled
  | inProgramming (e : FuseEntry)
  deriving DecidableEq, Repr

/-- What PROGRAMMING holds (R142): the slot and the entry, whose fields are the key or the bank and spare being sealed. -/
structure Programming where
  slot  : FuseNo
  entry : FuseEntry
  deriving DecidableEq, Repr

/-- The load summary (R148). The next-free value is absent until slot 63 has been read, and the skipped count is 0 until then (R146). -/
structure LoadSummary where
  entries   : Nat
  conflicts : Nat
  spoiled   : Nat
  skipped   : Nat
  nextFree  : Option Nat
  deriving DecidableEq, Repr

/-- Part state (R146). -/
inductive PartState where
  | reset | loading | running
  deriving DecidableEq, Repr

/-! ### Service port -/

/-- Result codes (11, under Table 11-5). -/
inductive Result where
  | ok | accepted | notFound | exists | noSpare | queueFull | busy | isSealed | fuseFull | inUse | badValue | badAddress | notReady
  | unknownRequest
  deriving DecidableEq, Repr

/-- The exchange state (R153) with the frames it holds: in SERVING the request being served, which its owner has taken, and the response
that is still being made ready for it (log 20); in ANSWERED the response. -/
inductive Exchange where
  | idle
  | serving (request response : List Byte)
  | answered (response : List Byte)
  deriving DecidableEq, Repr

/-- The last changing request record (R156). -/
structure LastChanging where
  code     : Byte
  xn       : Byte
  fields   : List Byte
  result   : Result
  contents : List Byte
  deriving DecidableEq, Repr

/-- The configuration set (Table 9-3). -/
structure Settings where
  tickInterval    : Nat
  urgentLevel     : Nat
  threshold       : Nat
  reach           : Nat
  targetsPerRef   : Nat
  correctedThr    : Nat
  uncorrectedThr  : Nat
  autoSteer       : Bool
  passoverLimit   : Nat
  recopyLimit     : Nat
  deriving DecidableEq, Repr

/-! ### Notice table -/

/-- The thirteen notice kinds in priority order (Table 10-1). -/
inductive NoticeKind where
  | refreshMissed | rowRevoked | sealedRowFaulty | sparesExhausted | targetOverflow | migrationAborted | sealFailed | suspectEvicted
  | migrationDone | returnDone | sealDone | loadDone | orderFault
  deriving DecidableEq, Repr

/-- The details of Table 10-1. -/
inductive Detail where
  | shadow (s : Shadow)
  | phys (p : PRow)
  | faulty (kind : ReportKind) (corrected uncorrected : Nat)
  | origin (o : Origin)
  | spare (d : Spare)
  | slot (n : FuseNo)
  | evicted (corrected uncorrected : Nat) (flagged : Bool)
  | poison (n : Nat)
  | load (s : LoadSummary)
  | fault (reason : Reason) (tag : Option Tag)
  deriving DecidableEq, Repr

/-- An entry of the notice table with its mask setting (R170). -/
structure NoticeEntry where
  pending : Bool
  count   : Nat
  bank    : Option Bank
  row     : Option LRow
  detail  : Option Detail
  masked  : Bool
  deriving DecidableEq, Repr

/-! ### Stack port -/

/-- A row operation the part does at the stack port (00 section 1.2). -/
inductive StackOp where
  | activate (bank : Bank) (row : PRow)
  | readBurst (bank : Bank) (row : PRow) (col : Col)
  | writeBurst (bank : Bank) (row : PRow) (col : Col)
  | precharge (bank : Bank) (row : PRow)
  | prechargeBank (bank : Bank)
  | refreshRow (bank : Bank) (row : PRow)
  deriving DecidableEq, Repr

/-! ### The machine -/

/-- The state of the TV-480. -/
structure State where
  /-- R146. -/
  part           : PartState
  /-- R108, Table 6-2: none is STOPPED, else the period in progress. -/
  timer          : Option Nat
  /-- R28, R91, R98, R108, R3, R4. -/
  banks          : Vector BankState 48
  /-- R49. -/
  link           : LinkState
  /-- R55, R56: the tags of the held orders; the held-order count is their number. -/
  held           : List Tag
  /-- R61: head first. -/
  reportLane     : List Report
  /-- R58: head first. -/
  outbound       : List OutMsg
  /-- R59: frames that wait on the link behind an unsent intake REJECT, in the order sent. -/
  waiting        : List (List Byte)
  /-- R70: head first. -/
  migQueue       : List (Bank × LRow)
  /-- R72, R73: none is IDLE. -/
  active         : Option Active
  /-- R75: the chunk buffer. -/
  buffer         : Vector BufBurst 8
  /-- R124, R125: front first. -/
  suspectList    : List Suspect
  /-- R138, R179: the fuses themselves. -/
  fuses          : Vector FuseBytes 64
  /-- R138. -/
  image          : Vector Image 64
  /-- R140. -/
  nextFree       : Nat
  /-- R142: none is IDLE. -/
  programmer     : Option Programming
  /-- R148. -/
  summary        : LoadSummary
  /-- R146: the load position. -/
  loadPos        : Nat
  /-- R153. -/
  exchange       : Exchange
  /-- R156. -/
  lastChanging   : Option LastChanging
  /-- R167, Table 9-3. -/
  settings       : Settings
  /-- R170, in priority order. -/
  notices        : Vector NoticeEntry 13
  /-- R173: the ALERT line, true when asserted. -/
  alert          : Bool
  /-- 00 Table 0-3: the stack's bursts by address, sparse and in canonical form (log 5). -/
  stack          : List (Nat × Burst)
  /-- The model's own: the operations done at the stack port, oldest first (log 7). -/
  stackPort      : List StackOp
  /-- The model's own: the frames sent on the order link, oldest first (log 7). -/
  linkOut        : List (List Byte)
  /-- The model's own: the bytes clocked out by the last response read (log 7). -/
  servicePortOut : List Byte
  /-- The model's own: how many free bytes have been used (log 8). -/
  freeCount      : Nat
  /-- The commands that wait, first in first out. -/
  pending        : List Instr
  deriving DecidableEq, Repr

/-- Why the machine stops: never. No event of the spec stops the part (INVENTORY, Faults), so no meaning raises a fault. -/
inductive Fault where
  deriving DecidableEq, Repr

/-- Why a command has no meaning. -/
inductive Refusal where
  /-- Raised by `exec` for a command the model does not treat; safe. No arm of `exec` raises it. -/
  | notModelled (mnemonic : String)
  deriving DecidableEq, Repr

/-! ### Reset -/

/-- One bank after a part reset (R26, R47, R105, R122). -/
def BankState.reset : BankState where
  shadow := .closed
  lane := []
  inProgress := none
  revoked := false
  passover := 0
  forced := false
  migClaim := none
  claimNew := false
  reported := false
  precharged := false
  pointer := 0
  debt := 0
  need := false
  slot := none
  service := none
  tracker := Vector.replicate 6 none
  targets := []
  records := Vector.replicate 8 none
  spares := Vector.replicate 8 .free

/-- The reset values of Table 9-3. -/
def Settings.reset : Settings where
  tickInterval := 39
  urgentLevel := 8
  threshold := 2048
  reach := 1
  targetsPerRef := 2
  correctedThr := 16
  uncorrectedThr := 1
  autoSteer := false
  passoverLimit := 4
  recopyLimit := 3

/-- A notice entry after a part reset (R171). -/
def NoticeEntry.reset : NoticeEntry where
  pending := false
  count := 0
  bank := none
  row := none
  detail := none
  masked := false

/-- The load summary after a part reset (R146). -/
def LoadSummary.reset : LoadSummary where
  entries := 0
  conflicts := 0
  spoiled := 0
  skipped := 0
  nextFree := none

/-- A burst of the chunk buffer after a part reset: mark clear (R89); its data is a DESIGN CHOICE (log 6). -/
def BufBurst.reset : BufBurst where
  data := Vector.replicate 8 0
  poison := false

/-- The machine right after reset: RESET_N has just returned high, the part is LOADING and every block is at its reset values (R146; log
3). The fuses are blank and the stack unwritten, as at first power-on (logs 4 and 5). -/
def State.reset : State where
  part := .loading
  timer := none
  banks := Vector.replicate 48 BankState.reset
  link := .down
  held := []
  reportLane := []
  outbound := []
  waiting := []
  migQueue := []
  active := none
  buffer := Vector.replicate 8 BufBurst.reset
  suspectList := []
  fuses := Vector.replicate 64 Config.blankFuses
  image := Vector.replicate 64 .blank
  nextFree := 0
  programmer := none
  summary := LoadSummary.reset
  loadPos := 0
  exchange := .idle
  lastChanging := none
  settings := Settings.reset
  notices := Vector.replicate 13 NoticeEntry.reset
  alert := false
  stack := []
  stackPort := []
  linkOut := []
  servicePortOut := []
  freeCount := 0
  pending := []

end Sys2Proof.Machine
end

