-- ==== Sys2Proof/Machine/Ops.lean ====
section
/-!
DEFINITION. The named operations over the state that every block uses: one bank's state, the stack's bursts, the record of the stack
port, and messages handed to the intake's outbound queue.
-/
namespace Sys2Proof.Machine

/-! ### Banks -/

/-- The state of one bank. -/
def State.bank (s : State) (b : Bank) : BankState := s.banks.get b

/-- The state with bank `b` as given; every other bank as it was. -/
def State.setBank (s : State) (b : Bank) (x : BankState) : State :=
  { s with banks := s.banks.set b.val x b.isLt }

/-- Every bank, in ascending order. -/
def allBanks : List Bank := List.finRange 48

/-- Physical row of spare d: 32768 + d (00 Table 0-3). -/
def spareRow (d : Spare) : PRow := ⟨32768 + d.val, by omega⟩

/-- The physical row a logical row has by the identity mapping (01 section 1.1). -/
def ownRow (r : LRow) : PRow := ⟨r.val, by omega⟩

/-- The chunk of a column: the column divided by 8 (R79). -/
def chunkOf (c : Col) : Chunk := ⟨c.val / 8, by omega⟩

/-- The columns of a chunk, ascending: 8k..8k+7 (R75). -/
def chunkCols (k : Chunk) : List Col := (List.finRange 8).map fun i => ⟨8 * k.val + i.val, by omega⟩

/-! ### The stack's bursts (log 5) -/

/-- The stack's contents: bursts by address. -/
abbrev Memory := List (Nat × Burst)

/-- The address of a burst: bank, physical row and column in one number. -/
def burstAddr (b : Bank) (p : PRow) (c : Col) : Nat := (b.val * 32776 + p.val) * 64 + c.val

/-- The burst at an address. -/
def Memory.read : Memory → Nat → Burst
  | [], _ => Config.unwrittenBurst
  | (k, v) :: m, a => if k = a then v else Memory.read m a

/-- The memory with a burst written, in canonical form. -/
def Memory.write : Memory → Nat → Burst → Memory
  | [], a, v => if v = Config.unwrittenBurst then [] else [(a, v)]
  | (k, w) :: m, a, v =>
    if a < k then (if v = Config.unwrittenBurst then (k, w) :: m else (a, v) :: (k, w) :: m)
    else if a = k then (if v = Config.unwrittenBurst then m else (a, v) :: m)
    else (k, w) :: Memory.write m a v

/-- The canonical form: addresses strictly rising and no burst equal to what an unlisted address reads as. -/
def Memory.wf : Memory → Bool
  | [] => true
  | (k, v) :: m => v != Config.unwrittenBurst && m.all (fun e => decide (k < e.1)) && Memory.wf m

/-- Burst c of physical row p of bank b. -/
def State.readBurst (s : State) (b : Bank) (p : PRow) (c : Col) : Burst := Memory.read s.stack (burstAddr b p c)

/-- Burst c of physical row p of bank b written. -/
def State.writeBurst (b : Bank) (p : PRow) (c : Col) (v : Burst) (s : State) : State :=
  { s with stack := Memory.write s.stack (burstAddr b p c) v }

/-- Whether a row operation is a burst read. -/
def StackOp.isRead : StackOp → Bool
  | .readBurst _ _ _ => true
  | .activate _ _ | .writeBurst _ _ _ | .precharge _ _ | .prechargeBank _ | .refreshRow _ _ => false

/-- Whether a row operation is a burst write. -/
def StackOp.isWrite : StackOp → Bool
  | .writeBurst _ _ _ => true
  | .activate _ _ | .readBurst _ _ _ | .precharge _ _ | .prechargeBank _ | .refreshRow _ _ => false

/-- Row operations recorded, in order (log 7). -/
def State.port (ops : List StackOp) (s : State) : State := { s with stackPort := s.stackPort ++ ops }

/-! ### The outbound queue -/

/-- A reply handed to the intake by a bank unit (`source` its bank) or by the suspect list: queued while the link is UP and discarded
otherwise (R58, R66, R67, Table 3-2). -/
def State.handReply (tag : Tag) (source : Option Bank) (body : ReplyBody) (s : State) : State :=
  if s.link = .up then { s with outbound := s.outbound ++ [.reply tag source body] } else s

/-- NEED(b) handed to the intake: queued while the link is UP unless a NEED(b) stands unsent, discarded otherwise (R62, R65). -/
def State.handNeed (b : Bank) (s : State) : State :=
  if s.link = .up ∧ OutMsg.need b ∉ s.outbound then { s with outbound := s.outbound ++ [.need b] } else s

/-- Whether a LOST(b) stands unsent with no reply of bank b behind it, so that another is merged with it (R65). -/
def lostMerges (b : Bank) (q : List OutMsg) : Bool :=
  q.foldl (fun acc m =>
    match m with
    | .lost b' => acc || decide (b' = b)
    | .reply _ (some b') _ => acc && !decide (b' = b)
    | _ => acc) false

/-- LOST(b) handed to the intake (R63, R65). -/
def State.handLost (b : Bank) (s : State) : State :=
  if s.link = .up ∧ lostMerges b s.outbound = false then { s with outbound := s.outbound ++ [.lost b] } else s

/-- Whether an intake REJECT stands unsent in the outbound queue (R59). -/
def State.rejectUnsent (s : State) : Bool :=
  s.outbound.any fun m => match m with
    | .intakeReject _ _ => true
    | _ => false

/-- The code of a reject reason (Table 11-2). -/
def Reason.code : Reason → Byte
  | .notReady => 0x01
  | .full => 0x02
  | .tagInUse => 0x03
  | .malformed => 0x04
  | .bankOpen => 0x05
  | .noRow => 0x06
  | .revoked => 0x07

/-- The frame of a reply (Table 11-2). -/
def replyFrame (tag : Tag) : ReplyBody → List Byte
  | .done => [0x81, byteOf tag.val]
  | .data burst => 0x82 :: byteOf tag.val :: bytesOfBurst burst
  | .reject r => [0x83, byteOf tag.val, r.code]

/-- The frame of a message to the controller (Table 11-2). -/
def OutMsg.frame : OutMsg → List Byte
  | .reply tag _ body => replyFrame tag body
  | .intakeReject tag r => replyFrame tag (.reject r)
  | .ready => [0xC0]
  | .need b => [0xC1, byteOf b.val]
  | .lost b => [0xC2, byteOf b.val]

end Sys2Proof.Machine
end

