-- ==== Sys2Proof/Machine/CheckCode.lean ====
section
/-!
DEFINITION. The check code of a data word, the poison pattern, and the check of a burst (11 R179 Poison pattern, R180; 04 R76, R77).
-/
namespace Sys2Proof.Machine

/-- The columns of the data bits 0..63: the 7-bit numbers with two or more bits set, ascending (R180). -/
def columns : List (BitVec 7) :=
  [3, 5, 6, 7, 9, 10, 11, 12, 13, 14, 15, 17, 18, 19, 20, 21] ++
  [22, 23, 24, 25, 26, 27, 28, 29, 30, 31, 33, 34, 35, 36, 37, 38] ++
  [39, 40, 41, 42, 43, 44, 45, 46, 47, 48, 49, 50, 51, 52, 53, 54] ++
  [55, 56, 57, 58, 59, 60, 61, 62, 63, 65, 66, 67, 68, 69, 70, 71]

/-- The column of data bit i (R180). -/
def columnOf (i : Fin 64) : BitVec 7 := columns.getD i.val 0

/-- Check bits 0..6 of a data word: the exclusive-or of the columns of its set bits (R180). -/
def checkBits (w : BitVec 64) : BitVec 7 :=
  (List.finRange 64).foldl (fun acc i => if w.getLsbD i.val then acc ^^^ columnOf i else acc) 0

/-- The exclusive-or of the lowest `n` bits of a word. -/
def parityOf {m : Nat} (w : BitVec m) : Nat → Bool
  | 0 => false
  | n + 1 => xor (w.getLsbD n) (parityOf w n)

/-- The check byte of a data word: check bits 0..6 and, as bit 7, the parity of the 64 data bits and of them (R180). -/
def checkByte (w : BitVec 64) : BitVec 8 :=
  let c := checkBits w
  (BitVec.ofBool (xor (parityOf w 64) (parityOf c 7))) ++ c

/-- The poison pattern (R179, Poison pattern). -/
def poisonWord : CodeWord := { data := 0xFFFFFFFF00000000, check := 0xE7 }

/-- The result of checking one word (R76, R180). -/
inductive WordCheck where
  | clean
  | corrected (word : BitVec 64)
  | uncorrectable
  deriving DecidableEq, Repr

/-- The syndrome of a stored word (R180). -/
def syndrome (w : CodeWord) : BitVec 7 := w.check.extractLsb' 0 7 ^^^ checkBits w.data

/-- The parity of all 72 stored bits (R180). -/
def storedParity (w : CodeWord) : Bool := xor (parityOf w.data 64) (parityOf w.check 8)

/-- The number of bits set among the lowest `n`. -/
def bitsSet {m : Nat} (w : BitVec m) : Nat → Nat
  | 0 => 0
  | n + 1 => (if w.getLsbD n then 1 else 0) + bitsSet w n

/-- The data bit whose column is a syndrome, when there is one (R180). -/
def columnBit (y : BitVec 7) : Option (Fin 64) := (List.finRange 64).find? fun i => columnOf i = y

/-- The check of a stored word (R180): the poison pattern is uncorrectable whatever the decoding gives. -/
def checkWord (w : CodeWord) : WordCheck :=
  if w = poisonWord then .uncorrectable
  else if storedParity w then
    if bitsSet (syndrome w) 7 ≤ 1 then .corrected w.data
    else
      match columnBit (syndrome w) with
      | some i => .corrected (w.data ^^^ (1#64 <<< i.val))
      | none => .uncorrectable
  else if syndrome w = 0 then .clean else .uncorrectable

/-- The result of checking a burst (R76): uncorrectable, or its clean or corrected words and whether one was corrected. -/
inductive BurstCheck where
  | words (data : Vector (BitVec 64) 8) (corrected : Bool)
  | uncorrectable
  deriving DecidableEq, Repr

/-- A word as the buffer takes it (R76). -/
def goodWord (w : CodeWord) : BitVec 64 :=
  match checkWord w with
  | .corrected d => d
  | _ => w.data

/-- Whether a check corrected its word. -/
def WordCheck.isCorrected : WordCheck → Bool
  | .corrected _ => true
  | _ => false

/-- The check of a burst, word by word (R76). -/
def checkBurst (b : Burst) : BurstCheck :=
  if b.toList.any fun w => checkWord w = .uncorrectable then .uncorrectable
  else .words (Vector.ofFn fun i => goodWord (b.get i)) (b.toList.any fun w => (checkWord w).isCorrected)

/-- A chunk buffer burst after a checked burst has been read into it (R76): an uncorrectable one is marked and its data not used, so the
data stays as it was (log 6). -/
def BufBurst.taken (old : BufBurst) : BurstCheck → BufBurst
  | .words d _ => { data := d, poison := false }
  | .uncorrectable => { old with poison := true }

/-- The burst written from a chunk buffer burst (R77): its words with check bytes generated anew, or the poison pattern in every word. -/
def BufBurst.out (u : BufBurst) : Burst :=
  if u.poison then Vector.replicate 8 poisonWord else Vector.ofFn fun i => { data := u.data.get i, check := checkByte (u.data.get i) }

end Sys2Proof.Machine
end

