-- ==== Sys2Proof/Machine/Flags.lean ====
section
/-!
DEFINITION. The notice table and the ALERT line: the part's one set of status flags (10, R170 to R175).
-/
namespace Sys2Proof.Machine

/-- Place of a kind in the notice table: its priority less 1 (Table 10-1). -/
def NoticeKind.index : NoticeKind → Fin 13
  | .refreshMissed => 0
  | .rowRevoked => 1
  | .sealedRowFaulty => 2
  | .sparesExhausted => 3
  | .targetOverflow => 4
  | .migrationAborted => 5
  | .sealFailed => 6
  | .suspectEvicted => 7
  | .migrationDone => 8
  | .returnDone => 9
  | .sealDone => 10
  | .loadDone => 11
  | .orderFault => 12

/-- The kinds in priority order (Table 10-1). -/
def noticeKinds : List NoticeKind :=
  [.refreshMissed, .rowRevoked, .sealedRowFaulty, .sparesExhausted, .targetOverflow, .migrationAborted, .sealFailed, .suspectEvicted,
   .migrationDone, .returnDone, .sealDone, .loadDone, .orderFault]

/-- The entry of a kind (R170). -/
def State.notice (s : State) (k : NoticeKind) : NoticeEntry := s.notices.get k.index

/-- ALERT's level: some kind is pending and unmasked (R173). -/
def alertLevel (t : Vector NoticeEntry 13) : Bool := t.toList.any fun e => e.pending && !e.masked

/-- The notice table with the entry of kind k as given, and ALERT as the table then has it (R173). -/
def State.setNotice (k : NoticeKind) (e : NoticeEntry) (s : State) : State :=
  let t := s.notices.set k.index.val e k.index.isLt
  { s with notices := t, alert := alertLevel t }

/-- An entry after a raise: pending, counted up to 255, with the raise's subject and detail (R170). -/
def NoticeEntry.raised (bank : Option Bank) (row : Option LRow) (d : Detail) (e : NoticeEntry) : NoticeEntry :=
  { e with pending := true, count := min 255 (e.count + 1), bank := bank, row := row, detail := some d }

/-- A raise of kind k (R170). -/
def State.raise (k : NoticeKind) (bank : Option Bank) (row : Option LRow) (d : Detail) (s : State) : State :=
  s.setNotice k ((s.notice k).raised bank row d)

/-- An entry after an acknowledgement: not pending, count 0, subject and detail kept (R175). -/
def NoticeEntry.acked (e : NoticeEntry) : NoticeEntry := { e with pending := false, count := 0 }

/-- The pending and unmasked kind of the highest priority (R174). -/
def State.topNotice (s : State) : Option NoticeKind :=
  noticeKinds.find? fun k => (s.notice k).pending && !(s.notice k).masked

end Sys2Proof.Machine
end

