-- ==== Sys2Proof/Machine/Steering.lean ====
section
/-!
DEFINITION. The steering table of one bank: lookup, allocation and the record transitions (01). What a claim does besides, to the
migration queue, the fuse store and the notices, is in Engine.lean and Service.lean.
-/
namespace Sys2Proof.Machine

/-- The slot, and so the spare, of the record of a logical row (R1, R3). -/
def BankState.slotOf (x : BankState) (r : LRow) : Option Spare :=
  (List.finRange 8).find? fun d => (x.records.get d).any fun e => e.row = r

/-- The record of a logical row with its slot. -/
def BankState.recOf (x : BankState) (r : LRow) : Option (Spare × Rec) :=
  match x.slotOf r with
  | none => none
  | some d => (x.records.get d).map fun e => (d, e)

/-- The lowest-numbered FREE spare (R5). -/
def BankState.freeSpare (x : BankState) : Option Spare :=
  (List.finRange 8).find? fun d => x.spares.get d = .free

/-- A slot's record set or removed. -/
def BankState.setRec (d : Spare) (e : Option Rec) (x : BankState) : BankState :=
  { x with records := x.records.set d.val e d.isLt }

/-- A spare's state set. -/
def BankState.setSpare (d : Spare) (v : SpareState) (x : BankState) : BankState :=
  { x with spares := x.spares.set d.val v d.isLt }

/-- Physical row that holds the logical row of a record standing in slot d (Table 1-4). -/
def Rec.current (d : Spare) (e : Rec) : PRow :=
  match e.state with
  | .migrating none => ownRow e.row
  | .migrating (some (f, _)) => spareRow f
  | .steered | .sealing _ | .fused _ | .returning => spareRow d

/-- Lookup of logical row r (R6, Table 1-4). -/
def BankState.lookupRow (x : BankState) (r : LRow) : PRow :=
  match x.recOf r with
  | none => ownRow r
  | some (d, e) => e.current d

/-- Kind, source and destination of the move of a record in slot d (R7, Table 1-5). -/
def Rec.move (d : Spare) (e : Rec) : Option (MoveKind × PRow × PRow) :=
  match e.state with
  | .migrating _ => some (.move, e.current d, spareRow d)
  | .returning => some (.ret, spareRow d, ownRow e.row)
  | .steered | .sealing _ | .fused _ => none

/-- A first steer onto spare d (R9, R11). -/
def BankState.firstSteer (r : LRow) (d : Spare) (o : Origin) (x : BankState) : BankState :=
  (x.setRec d (some { row := r, state := .migrating none, origin := o, poison := 0 })).setSpare d .held

/-- A re-steer of the STEERED record e from slot f onto spare d (R10, R11). -/
def BankState.reSteer (f : Spare) (e : Rec) (d : Spare) (o : Origin) (retire : Bool) (x : BankState) : BankState :=
  ((x.setRec f none).setRec d (some { e with state := .migrating (some (f, retire)), origin := o })).setSpare d .held

/-- The move of the MIGRATING record e in slot d given up, by cancel or abort: spare d becomes FREE and the record is removed or falls back
to STEERED on its from-spare (R12, R23). -/
def BankState.giveUp (d : Spare) (e : Rec) (old : Option (Spare × Bool)) (x : BankState) : BankState :=
  let x1 := (x.setRec d none).setSpare d .free
  match old with
  | none => x1
  | some (f, _) => x1.setRec f (some { e with state := .steered })

/-- The switch of the MIGRATING record e in slot d (R21). -/
def BankState.switched (d : Spare) (e : Rec) (old : Option (Spare × Bool)) (x : BankState) : BankState :=
  let x1 := x.setRec d (some { e with state := .steered })
  match old with
  | none => x1
  | some (f, retire) => x1.setSpare f (if retire then .bad false else .free)

/-- Return completion of the RETURNING record in slot d (R22). -/
def BankState.returned (d : Spare) (x : BankState) : BankState := (x.setRec d none).setSpare d .free

/-- The record e in slot d put into another state on its spare (R14, R15, R16). -/
def BankState.restate (d : Spare) (e : Rec) (st : RecState) (x : BankState) : BankState :=
  x.setRec d (some { e with state := st })

/-- The poison count of the record of row r raised by n, saturating at 64 (R20). -/
def BankState.poisoned (r : LRow) (n : Nat) (x : BankState) : BankState :=
  match x.recOf r with
  | none => x
  | some (d, e) => x.setRec d (some { e with poison := min 64 (e.poison + n) })

/-- A load claim for a ROW entry of slot n (R24): the bank after it and whether it was accepted. -/
def BankState.loadRow (n : FuseNo) (r : LRow) (d : Spare) (x : BankState) : BankState × Bool :=
  if (x.recOf r).isSome ∨ x.spares.get d ≠ .free then (x, false)
  else ((x.setRec d (some { row := r, state := .fused n, origin := .restored, poison := 0 })).setSpare d .held, true)

/-- A load claim for a VOID entry (R25). -/
def BankState.loadVoid (d : Spare) (x : BankState) : BankState × Bool :=
  if x.spares.get d ≠ .free then (x, false) else (x.setSpare d (.bad true), true)

end Sys2Proof.Machine
end

