-- ==== Sys2Proof/Machine/Tracker.lean ====
section
/-!
DEFINITION. The disturbance tracker: counting an activation, the offer to the target queue, and the neighbours of a row (05).
-/
namespace Sys2Proof.Machine

/-- The slot of a tracker that holds an entry of row p (R91). -/
def trackSlot (t : Vector (Option TrackEntry) 6) (p : PRow) : Option (Fin 6) :=
  (List.finRange 6).find? fun i => (t.get i).any fun e => e.row = p

/-- The lowest-numbered empty slot (R94). -/
def emptySlot (t : Vector (Option TrackEntry) 6) : Option (Fin 6) :=
  (List.finRange 6).find? fun i => (t.get i).isNone

/-- The count held in a slot; an empty slot counts 0. -/
def slotCount (t : Vector (Option TrackEntry) 6) (i : Fin 6) : Nat := ((t.get i).map fun e => e.count).getD 0

/-- The slot of the smallest count, the lowest-numbered among equals (R95). -/
def smallestSlot (t : Vector (Option TrackEntry) 6) : Fin 6 :=
  (List.finRange 6).foldl (fun best i => if slotCount t i < slotCount t best then i else best) 0

/-- Where an activation of p is counted and with what count, against threshold T: its own entry (R93), the lowest empty slot (R94), or
the place of the smallest count (R95). A count of T - 1 rises to T and is offered, as R93 says, also where the threshold was raised by 1
above a count held by a full queue, for which the text under R104 has no offer; that is the model's choice (log 32). -/
def countedAt (t : Vector (Option TrackEntry) 6) (T : Nat) (p : PRow) : Fin 6 × Nat :=
  match trackSlot t p with
  | some i => (i, if slotCount t i + 1 < T then slotCount t i + 1 else T)
  | none =>
    match emptySlot t with
    | some i => (i, 1)
    | none => (smallestSlot t, min (slotCount t (smallestSlot t) + 1) T)

/-- Outcome of an offer to the target queue (R96). -/
inductive Offer where
  | queued | accepted | refused
  deriving DecidableEq, Repr

/-- The outcome of offering p to a target queue (R96). -/
def offerOf (q : List PRow) (p : PRow) : Offer :=
  if p ∈ q then .queued else if q.length < Config.targetQueueLimit then .accepted else .refused

/-- Whether the counted activation reaches the threshold and so offers its row; an insertion into an empty slot never does (R94). -/
def offers (t : Vector (Option TrackEntry) 6) (T : Nat) (p : PRow) : Bool :=
  decide ((countedAt t T p).2 = T) && ((trackSlot t p).isSome || (emptySlot t).isNone)

/-- One bank's tracker and target queue after an activation of p (R93 to R97). -/
def BankState.counted (T : Nat) (p : PRow) (x : BankState) : BankState :=
  let (i, n) := countedAt x.tracker T p
  if offers x.tracker T p then
    match offerOf x.targets p with
    | .queued => { x with tracker := x.tracker.set i.val (some { row := p, count := 0 }) i.isLt }
    | .accepted => { x with tracker := x.tracker.set i.val (some { row := p, count := 0 }) i.isLt, targets := x.targets ++ [p] }
    | .refused => { x with tracker := x.tracker.set i.val (some { row := p, count := n }) i.isLt }
  else { x with tracker := x.tracker.set i.val (some { row := p, count := n }) i.isLt }

/-- An activation of physical row p of bank b handed to the tracker, with TARGET_OVERFLOW at a refused offer (R92, R96, R99). -/
def State.track (b : Bank) (p : PRow) (s : State) : State :=
  let x := s.bank b
  let s1 := s.setBank b (x.counted s.settings.threshold p)
  if offers x.tracker s.settings.threshold p && decide (offerOf x.targets p = .refused) then
    s1.raise .targetOverflow (some b) none (.phys p)
  else s1

/-- An activation of a row for a controller OPEN or a migration job: done at the stack port and handed to the tracker (R31, R36). -/
def State.activate (b : Bank) (p : PRow) (s : State) : State := (s.port [.activate b p]).track b p

/-- Whether two physical rows lie in the same strip (00 Table 0-3). -/
def sameStrip (p q : Nat) : Bool := decide (p < 32768) == decide (q < 32768)

/-- The neighbours of p at a reach, in ascending order: the rows at distance 1 to reach in p's own strip (R100). -/
def neighbours (reach : Nat) (p : PRow) : List PRow :=
  let below := (List.range reach).reverse.filterMap fun i => if i + 1 ≤ p.val then toFin? 32776 (p.val - (i + 1)) else none
  let above := (List.range reach).filterMap fun i => toFin? 32776 (p.val + (i + 1))
  (below ++ above).filter fun q => sameStrip p.val q.val

end Sys2Proof.Machine
end

