-- ==== Sys2Proof/Machine/Engine.lean ====
section
/-!
DEFINITION. The migration engine: taking a job, the chunk copy, claims, pass decisions, the switch and the abort (04), and the steer
claims that feed its queue (01 R9 to R14).
-/
namespace Sys2Proof.Machine

/-! ### Claims at the arbiter -/

/-- The engine's claim placed at the arbiter of bank b (R74); `claimNew` notes that the bank was CLOSED then (log 10). -/
def State.placeClaim (b : Bank) (k : ClaimKind) (s : State) : State :=
  let x := s.bank b
  s.setBank b { x with migClaim := some k, claimNew := decide (x.shadow = .closed) }

/-- The engine's claim withdrawn, when one is placed: the passover count returns to 0 (R39, R86). -/
def BankState.withdrawn (x : BankState) : BankState :=
  if x.migClaim.isSome then { x with migClaim := none, claimNew := false, passover := 0 } else x

/-! ### Taking a job -/

/-- The active context of a job when it becomes active (R72). -/
def Active.start (b : Bank) (r : LRow) (k : MoveKind) (src dst : PRow) : Active where
  phase := .copying
  bank := b
  row := r
  kind := k
  source := src
  dest := dst
  cursor := 0
  mask := Vector.replicate 8 false
  passPos := none
  passesDone := 0
  abort := false
  corrected := 0
  poisoned := 0

/-- The job of a key's record as it stands (R7, R71). -/
def State.jobOf (s : State) (b : Bank) (r : LRow) : Option Active :=
  match (s.bank b).recOf r with
  | none => none
  | some (d, e) => (e.move d).map fun (k, src, dst) => Active.start b r k src dst

/-- The IDLE engine takes the job at the head of the queue, if any: it leaves the queue, its context is built, and a COPY claim is placed
(R71). A job whose record is not MIGRATING or RETURNING, which R70 rules out, is dropped (log 26). -/
def State.takeJob (s : State) : State :=
  match s.active, s.migQueue with
  | none, (b, r) :: q =>
    match s.jobOf b r with
    | some a => ({ s with migQueue := q, active := some a }).placeClaim b .copy
    | none => { s with migQueue := q }
  | _, _ => s

/-- A job joined to the tail of the queue, and taken at once by an IDLE engine (R70, R71). -/
def State.queueJob (b : Bank) (r : LRow) (s : State) : State :=
  ({ s with migQueue := s.migQueue ++ [(b, r)] }).takeJob

/-- Whether the migration queue refuses another job (R70). -/
def State.queueFull (s : State) : Bool := decide (Config.migrationQueueLimit ≤ s.migQueue.length)

/-! ### Steer claims -/

/-- Outcome of a steer claim (R9, R10, Table 1-7): a new MIGRATING record on spare d, re-steered from a spare or not, or a refusal. -/
inductive SteerOutcome where
  | steering (d : Spare) (old : Option Spare)
  | noSpare | queueFull | busy | isSealed
  deriving DecidableEq, Repr

/-- A failed allocation raises SPARES_EXHAUSTED (R5). -/
def State.sparesExhausted (b : Bank) (r : LRow) (o : Origin) (s : State) : State :=
  s.raise .sparesExhausted (some b) (some r) (.origin o)

/-- A steer claim of origin o for key (b, r), service or automatic (R9, R10, R11, R27). -/
def State.steerClaim (b : Bank) (r : LRow) (o : Origin) (s : State) : State × SteerOutcome :=
  match (s.bank b).recOf r with
  | none =>
    match (s.bank b).freeSpare with
    | none => (s.sparesExhausted b r o, .noSpare)
    | some d =>
      if s.queueFull then (s, .queueFull)
      else ((s.setBank b ((s.bank b).firstSteer r d o)).queueJob b r, .steering d none)
  | some (f, e) =>
    match e.state with
    | .steered =>
      match (s.bank b).freeSpare with
      | none => (s.sparesExhausted b r o, .noSpare)
      | some d =>
        if s.queueFull then (s, .queueFull)
        else ((s.setBank b ((s.bank b).reSteer f e d o (decide (o = .auto)))).queueJob b r, .steering d (some f))
    | .fused _ => (s, .isSealed)
    | .migrating _ | .returning | .sealing _ => (s, .busy)

/-! ### The recopy mask -/

/-- Whether chunk k lies above a pass position; every chunk lies above none (R80). -/
def abovePos (p : Option Chunk) (k : Chunk) : Bool :=
  match p with
  | none => true
  | some j => decide (j.val < k.val)

/-- The lowest flagged chunk above the pass position (R80). -/
def Active.nextFlagged (a : Active) : Option Chunk :=
  (List.finRange 8).find? fun k => a.mask.get k && abovePos a.passPos k

/-- The flagged chunks, ascending (R83). -/
def Active.flagged (a : Active) : List Chunk := (List.finRange 8).filter fun k => a.mask.get k

/-- Whether no flag is set. -/
def Active.maskEmpty (a : Active) : Bool := a.flagged.isEmpty

/-- A chunk's flag set or cleared. -/
def Active.setFlag (k : Chunk) (v : Bool) (a : Active) : Active := { a with mask := a.mask.set k.val v k.isLt }

/-- A served WRITE of (b, r, c) as the active job takes it (R79). -/
def Active.written (b : Bank) (r : LRow) (c : Col) (a : Active) : Active :=
  if a.bank = b ∧ a.row = r ∧ (a.phase = .copying → (chunkOf c).val < a.cursor) then a.setFlag (chunkOf c) true else a

/-- A served WRITE handed to the migration engine (R33, R79). -/
def State.noteWrite (b : Bank) (r : LRow) (c : Col) (s : State) : State :=
  { s with active := s.active.map fun a => a.written b r c }

/-! ### The chunk job -/

/-- Burst i of chunk k of the source row, checked (R76). -/
def State.checkedBurst (s : State) (a : Active) (k : Chunk) (i : Fin 8) : BurstCheck :=
  checkBurst (s.readBurst a.bank a.source ⟨8 * k.val + i.val, by omega⟩)

/-- The chunk buffer after the eight burst reads of chunk k (R75, R76). -/
def State.bufferOf (s : State) (a : Active) (k : Chunk) : Vector BufBurst 8 :=
  Vector.ofFn fun i => (s.buffer.get i).taken (s.checkedBurst a k i)

/-- The bursts written into the destination for chunk k, by column (R75, R77). -/
def State.chunkWrites (s : State) (a : Active) (k : Chunk) : List (Col × Burst) :=
  (List.finRange 8).map fun i => (⟨8 * k.val + i.val, by omega⟩, ((s.bufferOf a k).get i).out)

/-- Bursts written into one row of the stack. -/
def writeBursts (b : Bank) (p : PRow) (ws : List (Col × Burst)) (s : State) : State :=
  ws.foldl (fun s w => s.writeBurst b p w.1 w.2) s

/-- How many bursts of chunk k are written with a corrected word, and how many with the poison pattern (R77). -/
def State.chunkCounts (s : State) (a : Active) (k : Chunk) : Nat × Nat :=
  ((List.finRange 8).countP fun i => match s.checkedBurst a k i with
      | .words _ c => c
      | .uncorrectable => false,
   (List.finRange 8).countP fun i => match s.checkedBurst a k i with
      | .words _ _ => false
      | .uncorrectable => true)

/-- The context's counts after the writes of a chunk (R77). -/
def Active.counted (n : Nat × Nat) (a : Active) : Active :=
  { a with corrected := min 255 (a.corrected + n.1), poisoned := min 255 (a.poisoned + n.2) }

/-- The row operations of a chunk job for chunk k, in their order (R75). -/
def Active.chunkOps (a : Active) (k : Chunk) : List StackOp :=
  .activate a.bank a.source :: ((chunkCols k).map (.readBurst a.bank a.source) ++ .precharge a.bank a.source
    :: .activate a.bank a.dest :: ((chunkCols k).map (.writeBurst a.bank a.dest) ++ [.precharge a.bank a.dest]))

/-- A whole chunk job for chunk k of the active job (R75): its row operations, with both activations handed to the tracker, the bursts
checked and written, the counts of R77 and the poison count of R20. -/
def State.copyChunk (k : Chunk) (s : State) : State :=
  match s.active with
  | none => s
  | some a =>
    let n := s.chunkCounts a k
    let s1 := ((s.port (a.chunkOps k)).track a.bank a.source).track a.bank a.dest
    let s2 := writeBursts a.bank a.dest (s.chunkWrites a k) { s1 with buffer := s.bufferOf a k }
    let s3 := s2.setBank a.bank ((s2.bank a.bank).poisoned a.row n.2)
    { s3 with active := some (a.counted n) }

/-! ### Switch and abort -/

/-- The switch of the active job at the steering table with its notice (R21, R22, R84). -/
def State.switchRecord (a : Active) (s : State) : State :=
  match (s.bank a.bank).recOf a.row with
  | none => s
  | some (d, e) =>
    match a.kind, e.state with
    | .move, .migrating old =>
      (s.setBank a.bank ((s.bank a.bank).switched d e old)).raise .migrationDone (some a.bank) (some a.row) (.poison e.poison)
    | .ret, .returning =>
      (s.setBank a.bank ((s.bank a.bank).returned d)).raise .returnDone (some a.bank) (some a.row) (.poison e.poison)
    | _, _ => s

/-- A job that holds bank b ends: CLOSED (R36). -/
def State.closeBank (b : Bank) (s : State) : State := s.setBank b { s.bank b with shadow := .closed }

/-- The switch taken: the record switched, the job ended, the context discarded, the next job taken (R84). -/
def State.takeSwitch (a : Active) (s : State) : State :=
  ({ (s.switchRecord a).closeBank a.bank with active := none }).takeJob

/-- The abort at the steering table with MIGRATION_ABORTED (R23). -/
def State.abortRecord (a : Active) (s : State) : State :=
  match (s.bank a.bank).recOf a.row with
  | none => s
  | some (d, e) =>
    match e.state with
    | .migrating old =>
      (s.setBank a.bank ((s.bank a.bank).giveUp d e old)).raise .migrationAborted (some a.bank) (some a.row) (.spare d)
    | _ => s

/-- The abort of the active job takes effect: a waiting claim is withdrawn, the table takes the abort, the engine becomes IDLE and takes
the next job (R86). -/
def State.abortNow (a : Active) (s : State) : State :=
  let s1 := s.setBank a.bank (s.bank a.bank).withdrawn
  ({ s1.abortRecord a with active := none }).takeJob

/-! ### Pass decisions -/

/-- The engine enters a phase with a context and places the phase's claim (R74, R80, R81, R82). -/
def State.enter (a : Active) (p : Phase) (k : ClaimKind) (s : State) : State :=
  ({ s with active := some { a with phase := p } }).placeClaim a.bank k

/-- A new recopy pass begins (R80). -/
def State.beginPass (a : Active) (s : State) : State := s.enter { a with passPos := none } .recopying .copy

/-- The decision at the end of a pass (R81). -/
def State.passDecision (a : Active) (s : State) : State :=
  if a.abort then s.abortNow a
  else if a.maskEmpty then s.enter a .switching .switch
  else if a.passesDone < s.settings.recopyLimit then s.beginPass a
  else s.enter a .final .final

/-- After a failed mask check (R82). -/
def State.checkFailed (a : Active) (s : State) : State :=
  if a.abort then s.enter a .final .final
  else if a.passesDone < s.settings.recopyLimit then s.beginPass a
  else s.enter a .final .final

/-- What follows a chunk job of the main pass (R78, R85): the cursor rises, and an abort, the next COPY claim or the decision follows. -/
def State.afterMainChunk (a : Active) (s : State) : State :=
  let a' := { a with cursor := a.cursor + 1 }
  if a'.abort then s.abortNow a'
  else if a'.cursor < 8 then s.enter a' .copying .copy
  else s.passDecision a'

/-- What follows a chunk job of a recopy pass (R80, R85). -/
def State.afterRecopyChunk (a : Active) (s : State) : State :=
  if a.abort then s.abortNow a
  else if a.nextFlagged.isSome then s.enter a .recopying .copy
  else s.passDecision { a with passesDone := a.passesDone + 1 }

/-- The chunk of the chunk job that holds the bank: the one numbered by the cursor (R78), or the pass position (R80). -/
def Active.chunk (a : Active) : Option Chunk :=
  match a.phase with
  | .copying => toFin? 8 a.cursor
  | .recopying => a.passPos
  | .switching | .final => none

end Sys2Proof.Machine
end

