-- ==== Sys2Proof/Machine/BankUnit.lean ====
section
/-!
DEFINITION. What a bank unit does with its bank: the end of an order, revocation, the part of a link reset that falls to it, and the
arbiter's choice (02), with the link's return to UP (03 R68).
-/
namespace Sys2Proof.Machine

/-! ### The link's return to UP -/

/-- A bank at or above the urgent level named behind READY: NEED(b) queued and the NEED state raised (R68). -/
def State.nameNeed (b : Bank) (s : State) : State :=
  if s.settings.urgentLevel ≤ (s.bank b).debt then (s.handNeed b).setBank b { s.bank b with need := true } else s

/-- The link becomes UP at the end of a link reset: READY, then a NEED for each bank at the urgent level, ascending (R68). -/
def State.linkUp (s : State) : State :=
  allBanks.foldl (fun s b => s.nameNeed b) { s with link := .up, outbound := s.outbound ++ [.ready] }

/-- Whether every bank unit has reported closed (R68). -/
def State.allReported (s : State) : Bool := s.banks.toList.all fun x => x.reported

/-- The link goes UP when it is RESETTING and all 48 bank units have reported (R68). -/
def State.tryLinkUp (s : State) : State :=
  if s.link = .resetting ∧ s.allReported = true then s.linkUp else s

/-! ### Revocation and the end of an order -/

/-- A sweep slot begins: the slot in progress becomes the slot of the sweep pointer (R109). -/
def BankState.beginSlot (x : BankState) : BankState := { x with slot := some x.pointer }

/-- A job of the refresh unit takes the bank and begins its first slot (R35, R36, R43, R116, R117). -/
def BankState.refreshJob (k : JobKind) (x : BankState) : BankState := ({ x with shadow := .claimed k, claimNew := false }).beginSlot

/-- Revocation of bank b, OPEN with rows r and p (R43). -/
def State.revoke (b : Bank) (r : LRow) (p : PRow) (s : State) : State :=
  let s1 := (s.port [.precharge b p]).setBank b (({ s.bank b with revoked := true, forced := false }).refreshJob .forced)
  (s1.handLost b).raise .rowRevoked (some b) (some r) (.phys p)

/-- A forced claim on an OPEN bank with no order in progress is granted by revocation (R40, R43); otherwise it waits. -/
def State.revokeIfForced (b : Bank) (s : State) : State :=
  match (s.bank b).shadow, (s.bank b).forced, (s.bank b).inProgress with
  | .opened r p, true, none => s.revoke b r p
  | _, _, _ => s

/-- The bank unit's part of a link reset once no order is in progress: an open row is precharged, and closed is reported (R44, R46). -/
def State.closeForReset (b : Bank) (s : State) : State :=
  match (s.bank b).shadow with
  | .opened _ p => (s.port [.precharge b p]).setBank b { s.bank b with shadow := .closed, reported := true }
  | _ => s.setBank b { s.bank b with reported := true }

/-- What the state an order has left leads to, before any further order is begun: during RESETTING the closing for the link reset (R44,
R45, R46), otherwise a revocation that has waited for it (R40, R41). A CLOSE that waits behind the order is not served before that
revocation: R40 and R41 say so, the last paragraph of 02 section 2.10 says otherwise, and the model follows the rules (log 31). -/
def State.settle (b : Bank) (s : State) : State :=
  if s.link = .resetting then (s.closeForReset b).tryLinkUp else s.revokeIfForced b

/-- The order at the head of the lane of bank b ends: its reply is handed to the intake and it leaves the lane (R30). -/
def State.endOrder (b : Bank) (body : ReplyBody) (s : State) : State :=
  match (s.bank b).lane with
  | [] => s
  | o :: rest =>
    ((s.handReply o.tag (some b) body).setBank b { s.bank b with lane := rest, inProgress := none }).settle b

/-- The order that the bank unit may begin: the head of the lane while none is in progress and no forced claim stands on an OPEN bank
(R30, R41). -/
def BankState.beginable (x : BankState) : Option BankOp :=
  match x.inProgress, x.lane with
  | none, o :: _ =>
    match x.shadow, x.forced with
    | .opened _ _, true => none
    | _, _ => some o.op
  | _, _ => none

/-- The reply to a READ or WRITE on a bank that is not OPEN (R32, R33). -/
def BankState.closedReject (x : BankState) : ReplyBody :=
  .reject (if x.revoked then .revoked else .noRow)

/-! ### The arbiter -/

/-- The lane's candidate: an OPEN or REFRESH at its head (R37). -/
def BankState.laneCandidate (x : BankState) : Option BankOp :=
  match x.lane with
  | o :: _ =>
    match o.op with
    | .opn r => some (.opn r)
    | .refresh => some .refresh
    | .read _ | .write _ _ | .close => none
  | [] => none

/-- The migration claim as a choice finds it; one placed at the job end that led to a choice taken first is not yet present (02 section
2.11; log 10). -/
def BankState.presentClaim (beforeClaim : Bool) (x : BankState) : Option ClaimKind :=
  if beforeClaim && x.claimNew then none else x.migClaim

/-- What the arbiter may choose (R37, R38). -/
inductive Choice where
  | forced
  | migration (k : ClaimKind)
  | lane (op : BankOp)
  deriving DecidableEq, Repr

/-- The arbiter's choice among the candidates, in the order of R38, with passover limit `limit`. -/
def BankState.choose (limit : Nat) (beforeClaim : Bool) (x : BankState) : Option Choice :=
  if x.forced then some .forced
  else
    match x.presentClaim beforeClaim, x.laneCandidate with
    | some k, some op => if limit ≤ x.passover then some (.migration k) else some (.lane op)
    | some k, none => some (.migration k)
    | none, some op => some (.lane op)
    | none, none => none

/-- The forced claim granted by a choice (R36, R38). -/
def State.grantForced (b : Bank) (s : State) : State :=
  s.setBank b (({ s.bank b with forced := false }).refreshJob .forced)

/-- A granted OPEN served to its end (R31): flag cleared, lookup, activation, bank OPEN, DONE. -/
def State.serveOpen (b : Bank) (r : LRow) (s : State) : State :=
  let p := (s.bank b).lookupRow r
  let s1 := (s.setBank b { s.bank b with revoked := false }).activate b p
  (s1.setBank b { s1.bank b with shadow := .opened r p }).endOrder b .done

/-- The lane's OPEN or REFRESH granted (R31, R35, R38): the passover count rises by 1 while a migration claim waits. -/
def State.grantLane (b : Bank) (op : BankOp) (claimWaits : Bool) (s : State) : State :=
  let x := s.bank b
  let x1 := { x with passover := if claimWaits then x.passover + 1 else x.passover, claimNew := false }
  match op with
  | .opn r => (s.setBank b x1).serveOpen b r
  | .refresh => s.setBank b (({ x1 with inProgress := some .sweeping }).refreshJob .sweep)
  | .read _ | .write _ _ | .close => s

/-- A SWITCH claim granted (R82): with the mask empty the switch is taken, else the job ends and the engine goes on. -/
def State.switchJob (a : Active) (s : State) : State :=
  if a.maskEmpty then s.takeSwitch a else (s.closeBank a.bank).checkFailed a

/-- The grant of a COPY claim at the engine: in a recopy pass the chunk is chosen, its flag cleared and the pass position set (R80). -/
def Active.granted (a : Active) : Active :=
  match a.phase with
  | .recopying =>
    match a.nextFlagged with
    | some k => { a.setFlag k false with passPos := some k }
    | none => a
  | .copying | .switching | .final => a

/-- The migration claim granted (R36, R38): the claim is removed, the passover count returns to 0, and the job begins (a SWITCH claim that no
job of the engine in this bank has placed cannot occur; it is removed, log 26). -/
def State.grantMigration (b : Bank) (k : ClaimKind) (s : State) : State :=
  let x := { s.bank b with migClaim := none, claimNew := false, passover := 0 }
  match k with
  | .copy => { s.setBank b { x with shadow := .claimed .copy } with active := s.active.map Active.granted }
  | .final => s.setBank b { x with shadow := .claimed .final }
  | .switch =>
    match s.active with
    | some a => if a.bank = b then (s.setBank b { x with shadow := .claimed .switch }).switchJob a else s.setBank b x
    | none => s.setBank b x

/-- The choice carried out. -/
def State.grant (b : Bank) (claimWaits : Bool) (c : Choice) (s : State) : State :=
  match c with
  | .forced => s.grantForced b
  | .migration k => s.grantMigration b k
  | .lane op => s.grantLane b op claimWaits

/-- The arbiter of bank b makes a choice, when the bank is CLOSED, no order is in progress and a candidate is present (R37, R38). -/
def State.arbiterChoice (b : Bank) (beforeClaim : Bool) (s : State) : State :=
  let x := s.bank b
  if x.shadow = .closed ∧ x.inProgress = none then
    match x.choose s.settings.passoverLimit beforeClaim with
    | some c => s.grant b (x.presentClaim beforeClaim).isSome c
    | none => s
  else s

end Sys2Proof.Machine
end

