-- ==== Sys2Proof/Machine/Intake.lean ====
section
/-!
DEFINITION. The order intake: the acceptance checks, the link reset, and the sending of the outbound queue (03, 11 R176).
-/
namespace Sys2Proof.Machine

/-- The reason the intake rejects a frame of two bytes or more, if it does: the checks of R52 in their order. -/
def State.orderReject (s : State) (kind : Byte) (t : Byte) (fields : List Byte) : Option Reason :=
  if s.link ≠ .up then some .notReady
  else if Config.heldLimit ≤ s.held.length then some .full
  else if frameTag t ∈ s.held then some .tagInUse
  else if (parseOrder kind (t :: fields)).isNone then some .malformed
  else none

/-- An intake REJECT: placed in the outbound queue, and ORDER_FAULT raised unless the reason is NOT_READY (R52, R54). -/
def State.rejectOrder (kind : Byte) (t : Byte) (fields : List Byte) (r : Reason) (s : State) : State :=
  let s1 := { s with outbound := s.outbound ++ [.intakeReject (frameTag t) r] }
  if r = .notReady then s1
  else s1.raise .orderFault (faultBank kind fields) (faultRow kind fields) (.fault r (some (frameTag t)))

/-- An accepted order takes a slot, marks its tag held and joins the tail of its lane (R55). -/
def State.acceptOrder (o : Order) (s : State) : State :=
  match o with
  | .bank t b op => ({ s with held := t :: s.held }).setBank b { s.bank b with lane := (s.bank b).lane ++ [LaneOrder.mk t op] }
  | .report t b r k => { s with held := t :: s.held, reportLane := s.reportLane ++ [Report.mk t b r k] }

/-- A frame of two bytes or more taken by the intake (R52, R176). -/
def State.takeOrder (kind : Byte) (t : Byte) (fields : List Byte) (s : State) : State :=
  match s.orderReject kind t fields, parseOrder kind (t :: fields) with
  | some r, _ => s.rejectOrder kind t fields r
  | none, some o => s.acceptOrder o
  | none, none => s

/-- One bank unit at the entry to RESETTING (R44): its lane is discarded but for a READ or WRITE in progress, a REFRESH in progress stops
being an order, the revoked flag is cleared. -/
def BankState.linkReset (x : BankState) : BankState :=
  match x.inProgress with
  | some (.burst _) => { x with lane := x.lane.take 1, revoked := false, reported := false }
  | some .sweeping => { x with lane := [], inProgress := none, revoked := false, reported := false }
  | none => { x with lane := [], revoked := false, reported := false }

/-- Bank unit b told of the link reset: with no order in progress it closes and reports at once (R44, R46). -/
def State.resetBank (b : Bank) (s : State) : State :=
  let s1 := s.setBank b (s.bank b).linkReset
  if (s1.bank b).inProgress = none then s1.closeForReset b else s1

/-- The message at the head of the outbound queue, when the intake had begun to send it, is completed on the link (R66; log 17). -/
def State.completeSending (sending : Bool) (s : State) : State :=
  match sending, s.outbound with
  | true, m :: _ => { s with linkOut := s.linkOut ++ [m.frame] }
  | _, _ => s

/-- A LINK_RESET taken (R66, R67): with the link UP it becomes RESETTING, every held order is discarded, the queues are emptied and every
bank unit is told; otherwise nothing changes. -/
def State.takeLinkReset (sending : Bool) (s : State) : State :=
  if s.link = .up then
    let s1 := s.completeSending sending
    let s2 := { s1 with link := .resetting, held := [], outbound := [], reportLane := [] }
    (allBanks.foldl (fun s b => s.resetBank b) s2).tryLinkUp
  else s

/-- A frame taken by the intake, read by its kind byte and length (R176). -/
def State.takeFrame (frame : List Byte) (s : State) : State :=
  match frame with
  | [] => s
  | kind :: rest =>
    if kind = kindLinkReset then s.takeLinkReset false
    else
      match rest with
      | t :: fields => s.takeOrder kind t fields
      | [] => if s.link = .up then s.raise .orderFault none none (.fault .malformed none) else s

/-- A frame arrives: lost while RESET_N is low (R50), waiting on the link while an intake REJECT is unsent (R59), else taken. -/
def State.arrive (frame : List Byte) (s : State) : State :=
  if s.part = .reset then s
  else if s.rejectUnsent then { s with waiting := s.waiting ++ [frame] }
  else s.takeFrame frame

/-- A LINK_RESET frame arrives. -/
def State.arriveLinkReset (rest : List Byte) (sending : Bool) (s : State) : State :=
  if s.part = .reset then s
  else if s.rejectUnsent then { s with waiting := s.waiting ++ [kindLinkReset :: rest] }
  else s.takeLinkReset sending

/-- The frames that wait on the link taken, in the order sent, until an intake REJECT is unsent again (R59). -/
def State.takeWaiting : List (List Byte) → State → State
  | [], s => { s with waiting := [] }
  | f :: fs, s => if s.rejectUnsent then { s with waiting := f :: fs } else State.takeWaiting fs (s.takeFrame f)

/-- The slot and tag of an answered order freed when its reply is sent (R56). -/
def State.freeTag (m : OutMsg) (s : State) : State :=
  match m with
  | .reply tag _ _ => { s with held := s.held.erase tag }
  | .intakeReject _ _ | .ready | .need _ | .lost _ => s

/-- The head of the outbound queue is sent and removed (R56, R58, R59). -/
def State.sendHead (s : State) : State :=
  match s.outbound with
  | [] => s
  | m :: q => State.takeWaiting s.waiting (({ s with outbound := q, linkOut := s.linkOut ++ [m.frame] }).freeTag m)

end Sys2Proof.Machine
end

