-- ==== Sys2Proof/Machine/SuspectList.lean ====
section
/-!
DEFINITION. The suspect list: taking a REPORT, its threshold test and evaluation (07).
-/
namespace Sys2Proof.Machine

/-- Whether a suspect record is that of key (b, r) (R124). -/
def Suspect.isOf (b : Bank) (r : LRow) (e : Suspect) : Bool := decide (e.bank = b) && decide (e.row = r)

/-- The suspect record of a key. -/
def suspectOf (l : List Suspect) (b : Bank) (r : LRow) : Option Suspect := l.find? (Suspect.isOf b r)

/-- The list without the record of a key (R125). -/
def withoutSuspect (l : List Suspect) (b : Bank) (r : LRow) : List Suspect := l.filter fun e => !e.isOf b r

/-- A report of a kind counted in a record, saturating (R127). -/
def Suspect.count (k : ReportKind) (e : Suspect) : Suspect :=
  match k with
  | .corrected => { e with corrected := min 255 (e.corrected + 1) }
  | .uncorrected => { e with uncorrected := min 15 (e.uncorrected + 1) }

/-- A new record for a first report (R128). -/
def Suspect.first (b : Bank) (r : LRow) (k : ReportKind) : Suspect :=
  match k with
  | .corrected => { bank := b, row := r, corrected := 1, uncorrected := 0, flagged := false }
  | .uncorrected => { bank := b, row := r, corrected := 0, uncorrected := 1, flagged := false }

/-- The full list's last record evicted with SUSPECT_EVICTED (R128). -/
def State.evictLast (s : State) : State :=
  match s.suspectList.getLast? with
  | some e =>
    ({ s with suspectList := s.suspectList.dropLast }).raise .suspectEvicted (some e.bank) (some e.row)
      (.evicted e.corrected e.uncorrected e.flagged)
  | none => s

/-- The report counted: the record updated and moved to the front (R127), or inserted there, the last one first evicted from a full list
(R128). The record is returned. -/
def State.countReport (b : Bank) (r : LRow) (k : ReportKind) (s : State) : State × Suspect :=
  match suspectOf s.suspectList b r with
  | some e => ({ s with suspectList := e.count k :: withoutSuspect s.suspectList b r }, e.count k)
  | none =>
    let s1 := if Config.suspectLimit ≤ s.suspectList.length then s.evictLast else s
    ({ s1 with suspectList := Suspect.first b r k :: s1.suspectList }, Suspect.first b r k)

/-- Whether a record meets a threshold (R129). -/
def Suspect.meets (c : Settings) (e : Suspect) : Bool :=
  decide (c.correctedThr ≤ e.corrected) || decide (c.uncorrectedThr ≤ e.uncorrected)

/-- The record at the front marked flagged (R130, R131, R133). -/
def State.flagFront (s : State) : State :=
  match s.suspectList with
  | e :: l => { s with suspectList := { e with flagged := true } :: l }
  | [] => s

/-- The evaluation of the record e at the front (R130 to R132). -/
def State.evaluate (k : ReportKind) (e : Suspect) (s : State) : State :=
  if s.settings.autoSteer then
    match s.steerClaim e.bank e.row .auto with
    | (s1, .steering _ _) => { s1 with suspectList := s1.suspectList.tail }
    | (s1, .isSealed) =>
      s1.flagFront.raise .sealedRowFaulty (some e.bank) (some e.row) (.faulty k e.corrected e.uncorrected)
    | (s1, .noSpare) | (s1, .queueFull) | (s1, .busy) => s1.flagFront
  else s.flagFront

/-- A REPORT taken as one event, but for its DONE (R126). -/
def State.takeReport (b : Bank) (r : LRow) (k : ReportKind) (s : State) : State :=
  let (s1, e) := s.countReport b r k
  if e.meets s1.settings then s1.evaluate k e else s1

end Sys2Proof.Machine
end

