-- ==== Sys2Proof/Machine/LinkFamily.lean ====
section
/-!
DEFINITION. The commands of the order link and the report lane: the order frames, LINK_RESET, OUTBOUND_SEND and REPORT_TAKE (03, 07, 11).
-/
namespace Sys2Proof.Machine

/-- What a meaning answers. -/
abbrev Out := Host.Outcome State Fault Refusal

/-- OPEN (R52). -/
def execOrderOpen (rest : List Byte) (s : State) : Out := .next (s.arrive (kindOpen :: rest))

/-- READ (R52). -/
def execOrderRead (rest : List Byte) (s : State) : Out := .next (s.arrive (kindRead :: rest))

/-- WRITE (R52). -/
def execOrderWrite (rest : List Byte) (s : State) : Out := .next (s.arrive (kindWrite :: rest))

/-- CLOSE (R52). -/
def execOrderClose (rest : List Byte) (s : State) : Out := .next (s.arrive (kindClose :: rest))

/-- REFRESH (R52). -/
def execOrderRefresh (rest : List Byte) (s : State) : Out := .next (s.arrive (kindRefresh :: rest))

/-- REPORT (R52). -/
def execOrderReport (rest : List Byte) (s : State) : Out := .next (s.arrive (kindReport :: rest))

/-- UNKNOWN_ORDER_FRAME (R176): read by its own bytes. -/
def execUnknownOrderFrame (frame : List Byte) (s : State) : Out := .next (s.arrive frame)

/-- LINK_RESET (R66, R67). -/
def execLinkReset (rest : List Byte) (sending : Bool) (s : State) : Out := .next (s.arriveLinkReset rest sending)

/-- OUTBOUND_SEND (R58). -/
def execOutboundSend (s : State) : Out := .next s.sendHead

/-- REPORT_TAKE (R61, R126): the REPORT at the head of the report lane is taken, leaves it, and its DONE is handed. -/
def execReportTake (s : State) : Out :=
  match s.reportLane with
  | [] => .next s
  | p :: rest => .next (({ s.takeReport p.bank p.row p.kind with reportLane := rest }).handReply p.tag none .done)

end Sys2Proof.Machine
end

