-- ==== Sys2Proof/Machine/Refresh.lean ====
section
/-!
DEFINITION. The refresh unit: the tick at a bank, the completion of a sweep slot, target service and the end of a refresh job (05 R101,
06).
-/
namespace Sys2Proof.Machine

/-! ### The tick -/

/-- Whether a tick that raises the debt to `d` places a forced claim (R115). -/
def BankState.forces (x : BankState) (d : Nat) : Bool :=
  decide (d = Config.debtLimit) && !x.forced && decide (x.shadow ≠ .claimed .forced)

/-- A tick at bank b (R112 to R115, R40): the debt rises, a forced claim and NEED follow as they are due, or REFRESH_MISSED is raised. -/
def State.tickBank (b : Bank) (s : State) : State :=
  let x := s.bank b
  if x.debt < Config.debtLimit then
    let d := x.debt + 1
    let names := decide (s.settings.urgentLevel ≤ d) && !x.need
    let s1 := s.setBank b { x with debt := d, forced := x.forced || x.forces d, need := x.need || names }
    let s2 := if x.forces d then s1.revokeIfForced b else s1
    if names then s2.handNeed b else s2
  else s.raise .refreshMissed (some b) none (.shadow x.shadow)

/-- The banks in the order in which a tick reaches them: those of `first`, each once (a bank named twice at its last
place), and then every other bank, ascending (log 14). -/
def tickOrder (first : List Bank) : List Bank := first.dedup ++ allBanks.filter fun b => b ∉ first

/-- A tick (R111, R112): it reaches every bank and the timer begins the next period with the tick interval in force. -/
def State.tickAll (first : List Bank) (s : State) : State :=
  { (tickOrder first).foldl (fun s b => s.tickBank b) s with timer := some s.settings.tickInterval }

/-! ### Sweep slots -/

/-- The eight physical rows of sweep slot k, ascending: 8k..8k+7, which for slot 4096 are the spares (R109). -/
def slotRows (k : Nat) : List PRow := (List.range 8).filterMap fun i => toFin? 32776 (8 * k + i)

/-- One bank's refresh state after the completion of slot k, with urgent level U (R110). The tracker is cleared at the wrap (R103). -/
def BankState.slotDone (U k : Nat) (x : BankState) : BankState :=
  { x with
    slot := none
    pointer := if k = Config.lastSweepSlot then 0 else k + 1
    tracker := if k = Config.lastSweepSlot then Vector.replicate 6 none else x.tracker
    debt := x.debt - 1
    need := if 0 < x.debt ∧ x.debt - 1 < U then false else x.need }

/-! ### Target service -/

/-- The row refreshes that are being done in a bank, in their order: those of the sweep slot in progress (R109), or those of the neighbours of
the aggressor being serviced (R101). -/
def BankState.refreshing (x : BankState) : List PRow :=
  match x.slot, x.service with
  | some k, _ => slotRows k
  | none, some { current := some (p, reach), .. } => neighbours reach p
  | none, _ => []

/-- The next aggressor taken from the head of the target queue with the reach in force, while the service may take one (R101). -/
def BankState.takeTarget (reach : Nat) (x : BankState) : BankState :=
  match x.service, x.targets with
  | some v, p :: q =>
    if 0 < v.left then { x with service := some { left := v.left - 1, current := some (p, reach) }, targets := q }
    else { x with service := some { v with current := none } }
  | some v, [] => { x with service := some { v with current := none } }
  | none, _ => x

/-- The row refreshes of the neighbours of the aggressor being serviced end, and the next aggressor is taken (R101). -/
def State.serviceOne (b : Bank) (s : State) : State :=
  match (s.bank b).service with
  | some { current := some (p, reach), .. } =>
    (s.port ((neighbours reach p).map (.refreshRow b))).setBank b ((s.bank b).takeTarget s.settings.reach)
  | _ => s

/-- Up to `n` aggressors serviced, one after another. -/
def State.serviceMany (b : Bank) : Nat → State → State
  | 0, s => s
  | n + 1, s => State.serviceMany b n (s.serviceOne b)

/-- The job after a target service (R116, R117): a SWEEP job ends and hands the DONE of its REFRESH unless a link reset discarded the
order; a FORCED job ends below the urgent level and otherwise begins the next slot. -/
def State.afterService (b : Bank) (s : State) : State :=
  let x := { s.bank b with service := none }
  match x.shadow with
  | .claimed .sweep =>
    let s1 := s.setBank b { x with shadow := .closed }
    if x.inProgress.isSome then s1.endOrder b .done else s1
  | .claimed .forced =>
    if x.debt < s.settings.urgentLevel then s.setBank b { x with shadow := .closed } else s.setBank b x.beginSlot
  | _ => s.setBank b x

/-- Target service begins: targets per refresh is read and the first aggressor taken; with nothing to service it ends at once (R101). -/
def State.beginService (b : Bank) (s : State) : State :=
  let x := ({ s.bank b with service := some { left := s.settings.targetsPerRef, current := none } }).takeTarget s.settings.reach
  match x.service with
  | some { current := some _, .. } => s.setBank b x
  | _ => (s.setBank b x).afterService b

/-- The completion of slot k of bank b, whose rows have been refreshed (R109, R110). -/
def State.completeSlot (b : Bank) (k : Nat) (s : State) : State :=
  ((s.port ((slotRows k).map (.refreshRow b))).setBank b ((s.bank b).slotDone s.settings.urgentLevel k)).beginService b

/-- Target service run to its end: the aggressor being serviced, then those it may still take, then the end (R101). -/
def State.endService (b : Bank) (s : State) : State :=
  match (s.bank b).service with
  | none => s
  | some v => (State.serviceMany b (v.left + 1) s).afterService b

end Sys2Proof.Machine
end

