-- ==== Sys2Proof/Machine/BankFamily.lean ====
section
/-!
DEFINITION. The commands of the bank units, the arbiter, the migration engine and the refresh unit (02, 04, 05, 06). An event that cannot
take place in the state it finds changes nothing (log 1).
-/
namespace Sys2Proof.Machine

/-- HEAD_OPEN (R31): rejected BANK_OPEN on an OPEN bank, else it waits as the arbiter's candidate. -/
def execHeadOpen (b : Bank) (s : State) : Out :=
  match (s.bank b).beginable, (s.bank b).shadow with
  | some (.opn _), .opened _ _ => .next (s.endOrder b (.reject .bankOpen))
  | _, _ => .next s

/-- HEAD_READ (R32): in progress with its burst on an OPEN bank, else rejected. -/
def execHeadRead (b : Bank) (s : State) : Out :=
  match (s.bank b).beginable, (s.bank b).shadow with
  | some (.read c), .opened _ p =>
    .next ((s.port [.readBurst b p c]).setBank b { s.bank b with inProgress := some (.burst (.data (s.readBurst b p c))) })
  | some (.read _), _ => .next (s.endOrder b (s.bank b).closedReject)
  | _, _ => .next s

/-- HEAD_WRITE (R33): the burst written and handed to the migration engine on an OPEN bank, else rejected. -/
def execHeadWrite (b : Bank) (s : State) : Out :=
  match (s.bank b).beginable, (s.bank b).shadow with
  | some (.write c v), .opened r p =>
    .next ((((s.port [.writeBurst b p c]).writeBurst b p c v).noteWrite b r c).setBank b
      { s.bank b with inProgress := some (.burst .done) })
  | some (.write _ _), _ => .next (s.endOrder b (s.bank b).closedReject)
  | _, _ => .next s

/-- HEAD_CLOSE (R34): the open row precharged, or the revoked flag cleared; then DONE. -/
def execHeadClose (b : Bank) (s : State) : Out :=
  match (s.bank b).beginable, (s.bank b).shadow with
  | some .close, .opened _ p => .next (((s.port [.precharge b p]).closeBank b).endOrder b .done)
  | some .close, _ => .next ((s.setBank b { s.bank b with revoked := false }).endOrder b .done)
  | _, _ => .next s

/-- HEAD_REFRESH (R35): rejected BANK_OPEN on an OPEN bank, else it waits as the arbiter's candidate. -/
def execHeadRefresh (b : Bank) (s : State) : Out :=
  match (s.bank b).beginable, (s.bank b).shadow with
  | some .refresh, .opened _ _ => .next (s.endOrder b (.reject .bankOpen))
  | _, _ => .next s

/-- ORDER_COMPLETION (R30): the READ or WRITE in progress ends and its reply is handed. A REFRESH in progress ends with its SWEEP job. -/
def execOrderCompletion (b : Bank) (s : State) : Out :=
  match (s.bank b).inProgress with
  | some (.burst body) => .next (s.endOrder b body)
  | some .sweeping | none => .next s

/-- BANK_ARBITER_CHOICE (R37, R38). -/
def execBankArbiterChoice (b : Bank) (beforeClaim : Bool) (s : State) : Out := .next (s.arbiterChoice b beforeClaim)

/-- CHUNK_JOB_END (R75, R78, R80): the chunk is copied, the bank returns to CLOSED, and the engine goes on. -/
def execChunkJobEnd (s : State) : Out :=
  match s.active with
  | none => .next s
  | some a =>
    if (s.bank a.bank).shadow = .claimed .copy then
      match a.chunk with
      | none => .next s
      | some k =>
        let s1 := (s.copyChunk k).closeBank a.bank
        let a1 := a.counted (s.chunkCounts a k)
        if a.phase = .copying then .next (s1.afterMainChunk a1) else .next (s1.afterRecopyChunk a1)
    else .next s

/-- The flagged chunks of a FINAL job copied in ascending order, each flag cleared (R83). That the flags are cleared in the step that ends the
job, and stand until then, is the model's reading (log 12). -/
def State.copyFlagged (ks : List Chunk) (s : State) : State :=
  ks.foldl (fun s k => ({ s with active := s.active.map fun (a : Active) => a.setFlag k false }).copyChunk k) s

/-- FINAL_JOB_END (R83): every flagged chunk copied under the one grant, and the switch taken. -/
def execFinalJobEnd (s : State) : Out :=
  match s.active with
  | none => .next s
  | some a => if (s.bank a.bank).shadow = .claimed .final then .next ((s.copyFlagged a.flagged).takeSwitch a) else .next s

/-- TICK (R112): while the timer is RUNNING. -/
def execTick (first : List Bank) (s : State) : Out :=
  match s.timer with
  | some _ => .next (s.tickAll first)
  | none => .next s

/-- SLOT_COMPLETION (R110). -/
def execSlotCompletion (b : Bank) (s : State) : Out :=
  match (s.bank b).slot with
  | some k => .next (s.completeSlot b k)
  | none => .next s

/-- AGGRESSOR_SERVICED (R101). -/
def execAggressorServiced (b : Bank) (s : State) : Out := .next (s.serviceOne b)

/-- TARGET_SERVICE_END (R101, R116, R117). -/
def execTargetServiceEnd (b : Bank) (s : State) : Out := .next (s.endService b)

end Sys2Proof.Machine
end

