-- ==== Sys2Proof/Machine/FuseStore.lean ====
section
/-!
DEFINITION. The fuse store: the layout and classification of a slot, programming, the start-up load and the torn slot (08, 11 Table 11-8
and R179).
-/
namespace Sys2Proof.Machine

/-- The open mark (Table 11-8). -/
def openMark : Byte := 0xA5

/-- The completion mark (Table 11-8). -/
def completionMark : Byte := 0x5A

/-- The check field of bytes 1 to 4: the inverse of their exclusive-or (R179). -/
def slotCheck (b1 b2 b3 b4 : Byte) : Byte := ~~~(b1 ^^^ b2 ^^^ b3 ^^^ b4)

/-- Bytes 1 to 4 of an entry (Table 11-8). -/
def entryBytes : FuseEntry → Byte × Byte × Byte × Byte
  | .row b r d => (byteOf (64 + b.val), byteOf d.val, byteOf (r.val / 256), byteOf r.val)
  | .void b d => (byteOf (128 + b.val), byteOf d.val, 0, 0)

/-- The seven bytes the programmer writes for an entry (Table 11-8, R179). -/
def encodeSlot (e : FuseEntry) : FuseBytes :=
  let (b1, b2, b3, b4) := entryBytes e
  #v[openMark, b1, b2, b3, b4, slotCheck b1 b2 b3 b4, completionMark]

/-- The classes of a slot's reading (R139). -/
inductive SlotClass where
  | blank
  | valid (e : FuseEntry)
  | spoiled
  deriving DecidableEq, Repr

/-- The entry of bytes 1 to 4, when kind, bank and zero bits are valid (R139, R179). -/
def parseEntry (b1 b2 b3 b4 : Byte) : Option FuseEntry := do
  let bank ← toFin? 48 (b1.extractLsb' 0 6).toNat
  let spare ← toFin? 8 b2.toNat
  let row ← rowField b3 b4
  if b1.extractLsb' 6 2 = 1#2 then return .row bank row spare
  else if b1.extractLsb' 6 2 = 2#2 ∧ row = 0 then return .void bank spare
  else none

/-- A slot classified by its seven bytes (R139, R179). -/
def classify (f : FuseBytes) : SlotClass :=
  if f = Config.blankFuses then .blank
  else if f[0] = openMark ∧ f[6] = completionMark ∧ f[5] = slotCheck f[1] f[2] f[3] f[4] then
    match parseEntry f[1] f[2] f[3] f[4] with
    | some e => .valid e
    | none => .spoiled
  else .spoiled

/-- A slot whose programming stopped: the open mark, of bytes 1 to 5 the first `n` whole and of the next the fuses of `m`, no completion
mark (R145, R179). How far it had come, and that bytes 1 to 5 are programmed in ascending order, is the model's (log 23). -/
def tornSlot (e : FuseEntry) (n : Nat) (m : Byte) : FuseBytes :=
  let w := encodeSlot e
  Vector.ofFn fun i => if i.val = 0 then openMark else if i.val = 6 then 0
    else if i.val ≤ n then w.get i else if i.val = n + 1 then w.get i &&& m else 0

/-! ### Programming -/

/-- Whether the programmer refuses a claim, and how: in use, or the pointer at 64 (R142). -/
def State.programmerRefuses (s : State) : Option Result :=
  if s.programmer.isSome then some .busy else if 64 ≤ s.nextFree then some .fuseFull else none

/-- The programmer takes the slot of the pointer with an entry: the pointer advances and the image shows it (R142). -/
def State.startProgramming (n : FuseNo) (e : FuseEntry) (s : State) : State :=
  { s with programmer := some { slot := n, entry := e }, nextFree := n.val + 1, image := s.image.set n.val (.inProgramming e) n.isLt }

/-- The steering table takes the verify result of a ROW entry (R16). -/
def State.rowSealResult (b : Bank) (r : LRow) (n : FuseNo) (ok : Bool) (s : State) : State :=
  let s1 :=
    match (s.bank b).recOf r with
    | some (d, e) =>
      match e.state with
      | .sealing _ => s.setBank b ((s.bank b).restate d e (if ok then .fused n else .steered))
      | .migrating _ | .steered | .fused _ | .returning => s
    | none => s
  s1.raise (if ok then .sealDone else .sealFailed) (some b) (some r) (.slot n)

/-- The steering table takes the verify result of a VOID entry (R19). -/
def State.voidSealResult (b : Bank) (d : Spare) (ok : Bool) (s : State) : State :=
  let s1 := if ok then s.setBank b ((s.bank b).setSpare d (.bad true)) else s
  s1.raise (if ok then .sealDone else .sealFailed) (some b) none (.spare d)

/-- The verify result handed to the steering table (R143). -/
def State.sealResult (p : Programming) (ok : Bool) (s : State) : State :=
  match p.entry with
  | .row b r _ => s.rowSealResult b r p.slot ok
  | .void b d => s.voidSealResult b d ok

/-- The end of a programming whose slot reads back as `f` (R143; log 22). -/
def State.endProgramming (p : Programming) (f : FuseBytes) (s : State) : State :=
  let ok := decide (classify f = .valid p.entry)
  let s1 := { s with
    fuses := s.fuses.set p.slot.val f p.slot.isLt
    image := s.image.set p.slot.val (if ok then .entry p.entry else .spoiled) p.slot.isLt
    programmer := none }
  s1.sealResult p ok

/-! ### The start-up load -/

/-- The image of a slot read by the load (R147). -/
def SlotClass.toImage : SlotClass → Image
  | .blank => .blank
  | .valid e => .entry e
  | .spoiled => .spoiled

/-- The summary after an entry that was accepted or in conflict (R147). -/
def LoadSummary.entryRead (accepted : Bool) (u : LoadSummary) : LoadSummary :=
  { u with entries := u.entries + 1, conflicts := if accepted then u.conflicts else u.conflicts + 1 }

/-- A slot of class c taken by the load (R147, R24, R25). -/
def State.loadClaim (n : FuseNo) (c : SlotClass) (s : State) : State :=
  match c with
  | .blank => s
  | .spoiled => { s with summary := { s.summary with spoiled := s.summary.spoiled + 1 } }
  | .valid (.row b r d) =>
    let y := (s.bank b).loadRow n r d
    { s.setBank b y.1 with summary := s.summary.entryRead y.2 }
  | .valid (.void b d) =>
    let y := (s.bank b).loadVoid d
    { s.setBank b y.1 with summary := s.summary.entryRead y.2 }

/-- One past the highest slot whose image is not BLANK; 0 when every slot is BLANK (R148). -/
def nextFreeOf (im : Vector Image 64) : Nat :=
  (List.finRange 64).foldl (fun acc i => if im.get i = .blank then acc else i.val + 1) 0

/-- How many slots below `n` are BLANK (R148). -/
def skippedOf (im : Vector Image 64) (n : Nat) : Nat :=
  (List.finRange 64).countP fun i => decide (i.val < n) && decide (im.get i = .blank)

/-- The summary completed and the pointer set once slot 63 has been read (R148). -/
def State.completeSummary (s : State) : State :=
  if s.loadPos = 64 then
    let n := nextFreeOf s.image
    { s with nextFree := n, summary := { s.summary with skipped := skippedOf s.image n, nextFree := some n } }
  else s

/-- The end of the load, when every slot has been read and every bank precharged (R149, R50, R111). -/
def State.tryLoadEnd (s : State) : State :=
  if s.loadPos = 64 ∧ s.banks.toList.all (fun x => x.precharged) = true then
    ({ s with part := .running, link := .up, outbound := s.outbound ++ [OutMsg.ready], timer := some s.settings.tickInterval }).raise
      .loadDone none none (.load s.summary)
  else s

/-- Slot n read by the load as the bytes `f` (R147). -/
def State.loadSlot (n : FuseNo) (f : FuseBytes) (s : State) : State :=
  let s1 := { s with image := s.image.set n.val (classify f).toImage n.isLt }
  ({ s1.loadClaim n (classify f) with loadPos := n.val + 1 }).completeSummary.tryLoadEnd

/-! ### Part reset -/

/-- The fuses after RESET_N is asserted: a slot being programmed is left torn (R145). -/
def State.tornFuses (s : State) (n : Nat) (m : Byte) : Vector FuseBytes 64 :=
  match s.programmer with
  | some p => s.fuses.set p.slot.val (tornSlot p.entry n m) p.slot.isLt
  | none => s.fuses

/-- The chunks that the COPY or FINAL job holding the active job's bank copies, in its order (R75, R83); no other job has one. -/
def State.jobChunks (s : State) (a : Active) : List Chunk :=
  match (s.bank a.bank).shadow with
  | .claimed .copy => a.chunk.toList
  | .claimed .final => a.flagged
  | _ => []

/-- The chunk buffer after the burst reads of a list, in its order (R75, R76). -/
def State.bufferAfter (s : State) (a : Active) (reads : List (Chunk × Fin 8)) : Vector BufBurst 8 :=
  reads.foldl (fun buf x => buf.set x.2.val ((buf.get x.2).taken (s.checkedBurst a x.1 x.2)) x.2.isLt) s.buffer

/-- The COPY or FINAL job that holds its bank abandoned with its first `n` row operations done (R47, R89): they stand at the stack port,
their burst reads are in the chunk buffer and their burst writes in the destination row. How many are done is an operand (log 23). -/
def State.abandonJob (n : Nat) (s : State) : State :=
  match s.active with
  | none => s
  | some a =>
    let chunks := s.jobChunks a
    let ops := (chunks.flatMap a.chunkOps).take n
    let reads := (chunks.flatMap fun k => (List.finRange 8).map fun i => (k, i)).take (ops.countP StackOp.isRead)
    let writes := (chunks.flatMap (s.chunkWrites a)).take (ops.countP StackOp.isWrite)
    (writeBursts a.bank a.dest writes { s with buffer := s.bufferAfter a reads }).port ops

/-- The SWEEP and FORCED jobs abandoned with row refreshes done in each bank as a list says (R110, R122): they stand at the stack port. How
many are done is an operand, and the banks stand in ascending order (log 23). -/
def State.abandonRefreshes (done : List (Bank × Nat)) (s : State) : State :=
  s.port (allBanks.flatMap fun b => ((s.bank b).refreshing.take ((done.lookup b).getD 0)).map (.refreshRow b))

/-- Every block at its reset values in a part state, but for the fuses, the stack and the chunk buffer's data; the model's records of what
has been seen outside stay, and so does the queue (R146, R89; logs 6 and 7). -/
def State.fresh (p : PartState) (s : State) : State :=
  { State.reset with
    part := p
    fuses := s.fuses
    stack := s.stack
    buffer := Vector.ofFn fun i => { s.buffer.get i with poison := false }
    stackPort := s.stackPort
    linkOut := s.linkOut
    servicePortOut := s.servicePortOut
    freeCount := s.freeCount
    pending := s.pending }

/-- RESET_N asserted (R146 and each block's part-reset rule): every job is abandoned where it stands, a slot being programmed is left torn,
and every block is at its reset values. -/
def State.resetPart (n : Nat) (m : Byte) (jobSteps : Nat) (refreshes : List (Bank × Nat)) (s : State) : State :=
  State.fresh .reset { (s.abandonJob jobSteps).abandonRefreshes refreshes with fuses := s.tornFuses n m }

end Sys2Proof.Machine
end

