-- ==== Sys2Proof/Machine/FuseFamily.lean ====
section
/-!
DEFINITION. The commands of the fuse store, the start-up load and the part reset (08, 02 R47). An event that cannot take place in the
state it finds changes nothing (log 1).
-/
namespace Sys2Proof.Machine

/-- PROGRAMMING_END (R143). -/
def execProgrammingEnd (readback : FuseBytes) (s : State) : Out :=
  match s.programmer with
  | some p => .next (s.endProgramming p readback)
  | none => .next s

/-- LOAD_SLOT_READ (R147): the slot of the load position is read, as the array holds it or as weak fuses make it read. -/
def execLoadSlotRead (weak : Option FuseBytes) (s : State) : Out :=
  match s.part, toFin? 64 s.loadPos with
  | .loading, some n => .next (s.loadSlot n (weak.getD (s.fuses.get n)))
  | _, _ => .next s

/-- LOADING_PRECHARGE_DONE (R47, R149). -/
def execLoadingPrechargeDone (b : Bank) (s : State) : Out :=
  if s.part = .loading ∧ (s.bank b).precharged = false then
    .next ((s.port [.prechargeBank b]).setBank b { s.bank b with precharged := true }).tryLoadEnd
  else .next s

/-- PART_RESET (R146). -/
def execPartReset (fuseBytes : Nat) (fuseMask : Byte) (progress : Progress) (s : State) : Out :=
  .next (s.resetPart fuseBytes fuseMask progress.jobSteps progress.refreshes)

/-- PART_RESET_RELEASE (R146): the part enters LOADING with every block at its reset values. -/
def execPartResetRelease (s : State) : Out := if s.part = .reset then .next (s.fresh .loading) else .next s

end Sys2Proof.Machine
end

