-- ==== Sys2Proof/Machine/Operands.lean ====
section
/-!
DEFINITION. The fields of a service request checked and read as what they name (09 R155 checks 4 and 5, Table 9-3, 11 Request frame).
-/
namespace Sys2Proof.Machine

/-- The configuration items, numbered 1..10 in the order of Table 9-3. -/
inductive Item where
  | tickInterval | urgentLevel | threshold | reach | targetsPerRef | correctedThr | uncorrectedThr | autoSteer | passoverLimit | recopyLimit
  deriving DecidableEq, Repr

/-- A request whose fields have passed the port's checks. -/
inductive Call where
  | status
  | lookup (bank : Bank) (row : LRow)
  | list (bank : Bank)
  | bank (bank : Bank)
  | steer (bank : Bank) (row : LRow)
  | release (bank : Bank) (row : LRow)
  | seal (bank : Bank) (row : LRow)
  | void (bank : Bank) (spare : Spare) (withSeal : Bool)
  | suspects
  | forget (bank : Bank) (row : LRow)
  | forgetAll
  | fuse (slot : FuseNo)
  | set (item : Item) (value : Nat)
  | get (item : Item)
  | noticeTop
  | noticeAck (kind : NoticeKind)
  | mask (kind : NoticeKind) (on : Bool)
  deriving DecidableEq, Repr

/-- The item of an item field (11, Request frame). -/
def itemOf (v : Byte) : Option Item :=
  match v.toNat with
  | 1 => some .tickInterval
  | 2 => some .urgentLevel
  | 3 => some .threshold
  | 4 => some .reach
  | 5 => some .targetsPerRef
  | 6 => some .correctedThr
  | 7 => some .uncorrectedThr
  | 8 => some .autoSteer
  | 9 => some .passoverLimit
  | 10 => some .recopyLimit
  | _ => none

/-- An item's range (Table 9-3); auto-steer is carried as 0 or 1 (R178). -/
def Item.range : Item → Nat × Nat
  | .tickInterval => (1, 4095)
  | .urgentLevel => (4, 11)
  | .threshold => (64, 16384)
  | .reach => (1, 2)
  | .targetsPerRef => (0, 4)
  | .correctedThr => (1, 255)
  | .uncorrectedThr => (1, 15)
  | .autoSteer => (0, 1)
  | .passoverLimit => (1, 15)
  | .recopyLimit => (0, 7)

/-- Whether a value lies in an item's range. -/
def Item.inRange (i : Item) (v : Nat) : Bool := decide (i.range.1 ≤ v) && decide (v ≤ i.range.2)

/-- An item's value (R167). -/
def Settings.get (c : Settings) : Item → Nat
  | .tickInterval => c.tickInterval
  | .urgentLevel => c.urgentLevel
  | .threshold => c.threshold
  | .reach => c.reach
  | .targetsPerRef => c.targetsPerRef
  | .correctedThr => c.correctedThr
  | .uncorrectedThr => c.uncorrectedThr
  | .autoSteer => if c.autoSteer then 1 else 0
  | .passoverLimit => c.passoverLimit
  | .recopyLimit => c.recopyLimit

/-- The configuration with an item set (R167). -/
def Settings.set (c : Settings) (i : Item) (v : Nat) : Settings :=
  match i with
  | .tickInterval => { c with tickInterval := v }
  | .urgentLevel => { c with urgentLevel := v }
  | .threshold => { c with threshold := v }
  | .reach => { c with reach := v }
  | .targetsPerRef => { c with targetsPerRef := v }
  | .correctedThr => { c with correctedThr := v }
  | .uncorrectedThr => { c with uncorrectedThr := v }
  | .autoSteer => { c with autoSteer := decide (v = 1) }
  | .passoverLimit => { c with passoverLimit := v }
  | .recopyLimit => { c with recopyLimit := v }

/-- The notice kind of a kind field, 1..13 in the priority order of Table 10-1 (11, Request frame). -/
def kindOf (v : Byte) : Option NoticeKind := if v = 0 then none else noticeKinds[v.toNat - 1]?

/-- The flag of a flag field, 0x00 off and 0x01 on (11, Request frame). -/
def flagOf (v : Byte) : Option Bool := if v = 0 then some false else if v = 1 then some true else none

/-- A field that check 4 or check 5 of R155 refuses with `r` when it names nothing. -/
def orElseResult (r : Result) {α : Type} (o : Option α) : Except Result α :=
  match o with
  | some a => .ok a
  | none => .error r

/-- A bank field (R155 check 4). -/
def bankField (v : Byte) : Except Result Bank := orElseResult .badAddress (toFin? 48 v.toNat)

/-- A logical row field (R155 check 4). -/
def rowOf (v : BitVec 16) : Except Result LRow := orElseResult .badAddress (toFin? 32768 v.toNat)

/-- Checks 4 and 5 of R155, in that order: BAD_ADDRESS before BAD_VALUE. -/
def checkRequest : Request → Except Result Call
  | .status => .ok .status
  | .lookup b r => do return .lookup (← bankField b) (← rowOf r)
  | .list b => do return .list (← bankField b)
  | .bank b => do return .bank (← bankField b)
  | .steer b r => do return .steer (← bankField b) (← rowOf r)
  | .release b r => do return .release (← bankField b) (← rowOf r)
  | .seal b r => do return .seal (← bankField b) (← rowOf r)
  | .void b d f => do
    return .void (← bankField b) (← orElseResult .badAddress (toFin? 8 d.toNat)) (← orElseResult .badValue (flagOf f))
  | .suspects => .ok .suspects
  | .forget b r => do return .forget (← bankField b) (← rowOf r)
  | .forgetAll => .ok .forgetAll
  | .fuse n => do return .fuse (← orElseResult .badAddress (toFin? 64 n.toNat))
  | .set i v => do
    let item ← orElseResult .badValue (itemOf i)
    if item.inRange v.toNat then return .set item v.toNat else .error .badValue
  | .get i => do return .get (← orElseResult .badValue (itemOf i))
  | .noticeTop => .ok .noticeTop
  | .noticeAck k => do return .noticeAck (← orElseResult .badValue (kindOf k))
  | .mask k m => do return .mask (← orElseResult .badValue (kindOf k)) (← orElseResult .badValue (flagOf m))

end Sys2Proof.Machine
end

