-- ==== Sys2Proof/Machine/Layout.lean ====
section
/-!
DEFINITION. The contents of each response, byte by byte (11 R178), and the response frame (11 Table 11-5). Where R178 leaves a width, a
code or an order open the choice is logged (log 21).
-/
namespace Sys2Proof.Machine

/-- An item that may be absent: a presence byte, then its bytes when present (R178). -/
def optItem : Option (List Byte) → List Byte
  | none => [0]
  | some l => 1 :: l

/-- A result code (11, under Table 11-5). -/
def Result.code : Result → Byte
  | .ok => 0x00
  | .accepted => 0x01
  | .notFound => 0x10
  | .exists => 0x11
  | .noSpare => 0x12
  | .queueFull => 0x13
  | .busy => 0x14
  | .isSealed => 0x16
  | .fuseFull => 0x17
  | .inUse => 0x18
  | .badValue => 0x20
  | .badAddress => 0x21
  | .notReady => 0x22
  | .unknownRequest => 0x23

/-- A response frame of status 0x00 (Table 11-5). -/
def responseFrame (xn code : Byte) (r : Result) (contents : List Byte) : List Byte :=
  0x00 :: xn :: code :: r.code :: (twoBytes contents.length ++ contents)

/-- A frame of status *no response* or *response pending* (Table 11-5). -/
def statusFrame (status : Byte) : List Byte := [status, 0, 0, 0, 0, 0]

/-! ### Records, spares and suspects -/

/-- A record state's code (Table 11-6). -/
def RecState.code : RecState → Byte
  | .migrating _ => 0x01
  | .steered => 0x02
  | .sealing _ => 0x03
  | .fused _ => 0x04
  | .returning => 0x05

/-- An origin's code (Table 11-6). -/
def Origin.code : Origin → Byte
  | .managed => 0x01
  | .auto => 0x02
  | .restored => 0x03

/-- The from-spare and retire-old of a record state. -/
def RecState.old : RecState → Option (Spare × Bool)
  | .migrating o => o
  | .steered | .sealing _ | .fused _ | .returning => none

/-- The seal slot of a record state. -/
def RecState.sealSlot : RecState → Option FuseNo
  | .sealing n | .fused n => some n
  | .migrating _ | .steered | .returning => none

/-- The presence byte of a record entry (Table 11-6). -/
def RecState.presence (st : RecState) : Byte :=
  byteOf ((if st.old.isSome then 1 else 0) + (if st.sealSlot.isSome then 2 else 0)
    + (if st.old.any (fun o => o.2) then 4 else 0))

/-- The entry of the record e that stands in slot d of bank b (Table 11-6). -/
def recEntry (b : Bank) (d : Spare) (e : Rec) : List Byte :=
  byteOf b.val :: (twoBytes e.row.val ++
    [e.state.code, byteOf d.val, e.state.presence, byteOf ((e.state.old.map fun o => o.1.val).getD 0), e.origin.code,
     byteOf e.poison, byteOf ((e.state.sealSlot.map fun n => n.val).getD 0)])

/-- The records of a bank in slot order with their slots. -/
def BankState.recList (x : BankState) : List (Spare × Rec) :=
  (List.finRange 8).filterMap fun d => (x.records.get d).map fun e => (d, e)

/-- The record that names spare d, and whether as its from-spare (R4, R159). -/
def BankState.namedBy (x : BankState) (d : Spare) : Option (Rec × Bool) :=
  match x.records.get d with
  | some e => some (e, false)
  | none => (x.recList.find? fun y => y.2.state.old.any fun o => o.1 = d).map fun y => (y.2, true)

/-- A spare entry of LIST (R178). -/
def BankState.spareEntry (x : BankState) (d : Spare) : List Byte :=
  match x.spares.get d with
  | .free => [0x00, 0x00, 0x00]
  | .bad sealed => [byteOf (2 + if sealed then 4 else 0), 0x00, 0x00]
  | .held =>
    match x.namedBy d with
    | some (e, asFrom) => byteOf (1 + if asFrom then 8 else 0) :: twoBytes e.row.val
    | none => [0x01, 0x00, 0x00]

/-- The contents of LIST (R159, R178). -/
def listContents (b : Bank) (x : BankState) : List Byte :=
  byteOf x.recList.length :: (x.recList.flatMap (fun y => recEntry b y.1 y.2) ++ (List.finRange 8).flatMap x.spareEntry)

/-- A suspect entry (Table 11-7). -/
def Suspect.bytes (e : Suspect) : List Byte :=
  byteOf e.bank.val :: (twoBytes e.row.val ++ [byteOf e.corrected, byteOf e.uncorrected, flagByte e.flagged])

/-- The contents of SUSPECTS (R161, R178). -/
def suspectsContents (l : List Suspect) : List Byte := byteOf l.length :: l.flatMap Suspect.bytes

/-- The place 1..8 of a key in the migration queue (R158). -/
def queuePlace (q : List (Bank × LRow)) (b : Bank) (r : LRow) : Option Nat := (q.idxOf? (b, r)).map (· + 1)

/-- Whether a key is that of the active job. -/
def State.isActive (s : State) (b : Bank) (r : LRow) : Bool := s.active.any fun a => decide (a.bank = b) && decide (a.row = r)

/-- The contents of LOOKUP when it finds something (R158, R178). -/
def State.lookupContents (s : State) (b : Bank) (r : LRow) : List Byte :=
  let rec? := (s.bank b).recOf r
  let sus? := suspectOf s.suspectList b r
  let place := queuePlace s.migQueue b r
  byteOf ((if rec?.isSome then 1 else 0) + (if sus?.isSome then 2 else 0) + (if place.isSome then 4 else 0)
      + (if s.isActive b r then 8 else 0))
    :: ((rec?.map fun y => recEntry b y.1 y.2).getD []
      ++ (place.map fun n => [byteOf n]).getD []
      ++ (sus?.map fun e => e.bytes ++ [byteOf (s.suspectList.idxOf e + 1)]).getD [])

/-! ### Bank -/

/-- A shadow state's code (R178, BANK). -/
def Shadow.code : Shadow → Byte
  | .closed => 0x00
  | .opened _ _ => 0x01
  | .claimed _ => 0x02

/-- A job kind's code (R178, BANK). -/
def JobKind.code : JobKind → Byte
  | .sweep => 0x01
  | .forced => 0x02
  | .copy => 0x03
  | .switch => 0x04
  | .final => 0x05

/-- A claim kind's code in BANK (R178). -/
def ClaimKind.bankCode : ClaimKind → Byte
  | .copy => 0x03
  | .switch => 0x04
  | .final => 0x05

/-- The open rows of a bank, 0 when it is not OPEN (R178, BANK). -/
def Shadow.openRows : Shadow → Nat × Nat
  | .opened r p => (r.val, p.val)
  | .closed | .claimed _ => (0, 0)

/-- The job kind of a shadow state, 0 when none (R178, BANK). -/
def Shadow.jobCode : Shadow → Byte
  | .claimed k => k.code
  | .closed | .opened _ _ => 0x00

/-- The tracker entries of a bank with their slots (R106). No rule orders them in the response of BANK; that they stand in ascending order of
their slots is the model's choice (log 21). -/
def BankState.trackList (x : BankState) : List (Fin 6 × TrackEntry) :=
  (List.finRange 6).filterMap fun i => (x.tracker.get i).map fun e => (i, e)

/-- The contents of BANK (R160, R178). That the NEED state is 0x01 when raised and 0x00 when not is the model's choice (log 21). -/
def BankState.contents (x : BankState) : List Byte :=
  x.shadow.code :: (twoBytes x.shadow.openRows.1 ++ twoBytes x.shadow.openRows.2
    ++ [x.shadow.jobCode, flagByte x.revoked, byteOf x.passover, flagByte x.forced, (x.migClaim.map ClaimKind.bankCode).getD 0,
        byteOf x.lane.length]
    ++ twoBytes x.pointer ++ [byteOf x.debt, flagByte x.need] ++ twoBytes (x.slot.getD 0xFFFF)
    ++ byteOf x.trackList.length :: x.trackList.flatMap (fun y => byteOf y.1.val :: (twoBytes y.2.row.val ++ twoBytes y.2.count))
    ++ byteOf x.targets.length :: x.targets.flatMap (fun p => twoBytes p.val))

/-! ### Notices -/

/-- A report kind's code (Table 11-1). -/
def reportCode : ReportKind → Byte := reportKindByte

/-- A load summary's five values in STATUS. The last two are items that may be absent: they are marked not yet set while the part is LOADING
(`isSet` false) and present otherwise (R148, R150, R157, R178). -/
def LoadSummary.bytes (isSet : Bool) (u : LoadSummary) : List Byte :=
  [byteOf u.entries, byteOf u.conflicts, byteOf u.spoiled] ++ optItem (if isSet then some [byteOf u.skipped] else none)
    ++ optItem (if isSet then u.nextFree.map fun n => [byteOf n] else none)

/-- A load summary's five values in the detail of LOAD_DONE. Its next-free value has been set before the notice is raised (R148, R149), so
none of them is an item that may be absent and none carries a presence byte (R178). -/
def LoadSummary.detailBytes (u : LoadSummary) : List Byte :=
  [byteOf u.entries, byteOf u.conflicts, byteOf u.spoiled, byteOf u.skipped] ++ u.nextFree.toList.map byteOf

/-- A detail's bytes (Table 10-1, R178). -/
def Detail.bytes : Detail → List Byte
  | .shadow (.claimed k) => [0x02, 0x01, k.code]
  | .shadow .closed => [0x00, 0x00]
  | .shadow (.opened _ _) => [0x01, 0x00]
  | .phys p => twoBytes p.val
  | .faulty k c u => [reportCode k, byteOf c, byteOf u]
  | .origin o => [o.code]
  | .spare d => [byteOf d.val]
  | .slot n => [byteOf n.val]
  | .evicted c u f => [byteOf c, byteOf u, flagByte f]
  | .poison n => [byteOf n]
  | .load u => u.detailBytes
  | .fault r t => r.code :: optItem (t.map fun t => [byteOf t.val])

/-- An entry's count, last subject and detail (R170, R174, R175). -/
def NoticeEntry.bytes (e : NoticeEntry) : List Byte :=
  byteOf e.count :: (optItem (e.bank.map fun b => [byteOf b.val]) ++ optItem (e.row.map fun r => twoBytes r.val)
    ++ optItem (e.detail.map Detail.bytes))

/-- The contents of NOTICE_TOP (R174). That one presence byte stands before the chosen kind with its count, subject and detail as a group, and
that the thirteen pairs follow kind by kind, is the model's (log 21). -/
def State.noticeTopContents (s : State) : List Byte :=
  optItem (s.topNotice.map fun k => byteOf (k.index.val + 1) :: (s.notice k).bytes)
    ++ noticeKinds.flatMap fun k => [flagByte (s.notice k).pending, flagByte (s.notice k).masked]

/-! ### Fuse -/

/-- The class byte of an image (R178, FUSE). -/
def Image.code : Image → Byte
  | .blank => 0x00
  | .entry (.row _ _ _) => 0x01
  | .entry (.void _ _) => 0x02
  | .spoiled => 0x03
  | .inProgramming _ => 0x04

/-- The seven bytes of an image (R178, FUSE). -/
def Image.bytes : Image → List Byte
  | .entry e | .inProgramming e => (encodeSlot e).toList
  | .blank | .spoiled => List.replicate 7 0

/-- The contents of FUSE (R151, R178). -/
def State.fuseContents (s : State) (n : FuseNo) : List Byte :=
  (s.image.get n).code :: ((s.image.get n).bytes ++ [flagByte (decide (n.val < s.nextFree))])

/-! ### Status -/

/-- How many records of the table satisfy `p`. -/
def State.countRecs (s : State) (p : RecState → Bool) : Nat :=
  (s.banks.toList.map fun x => x.recList.countP fun y => p y.2.state).sum

/-- How many spares of the table satisfy `p`. -/
def State.countSpares (s : State) (p : SpareState → Bool) : Nat := (s.banks.toList.map fun x => x.spares.toList.countP p).sum

/-- The counts of records in each state, in the order of Table 9-2. -/
def State.recCounts (s : State) : List Byte :=
  [0x01, 0x02, 0x03, 0x04, 0x05].flatMap fun c => twoBytes (s.countRecs fun st => st.code = c)

/-- The number of FREE spares over all banks (Table 9-2). -/
def State.freeSpares (s : State) : List Byte := twoBytes (s.countSpares fun v => decide (v = .free))

/-- The number of BAD spares over all banks (Table 9-2). -/
def State.badSpares (s : State) : List Byte :=
  twoBytes (s.countSpares fun v => decide (v = .bad false) || decide (v = .bad true))

/-- A part state's code: the states in the order in which R146 names them, which is the model's choice (log 21). -/
def PartState.code : PartState → Byte
  | .reset => 0x00
  | .loading => 0x01
  | .running => 0x02

/-- A link state's code (R178). That the states are numbered in the order of Table 3-2's columns, DOWN, RESETTING, UP, and not in that of Table
3-1's rows, is the model's choice (log 21). -/
def LinkState.code : LinkState → Byte
  | .down => 0x00
  | .resetting => 0x01
  | .up => 0x02

/-- An engine state's code (Table 4-2, R178). -/
def engineCode : Option Phase → Byte
  | none => 0x00
  | some .copying => 0x01
  | some .recopying => 0x02
  | some .switching => 0x03
  | some .final => 0x04

/-- The eight flags of the recopy mask, each in one byte (R178), chunks 0..7 (Table 4-1). -/
def maskBytes (m : Vector Bool 8) : List Byte := (List.finRange 8).map fun k => flagByte (m.get k)

/-- The code of the active job's kind in STATUS, in the order in which Table 4-1 names the kinds; the code is the model's choice (log 21). -/
def MoveKind.code : MoveKind → Byte
  | .move => 0x00
  | .ret => 0x01

/-- The fields of the active context in the order of Table 4-1 (R178). That the cursor and, behind its presence byte, the pass position take one
byte each is the model's choice (log 21). -/
def Active.bytes (a : Active) : List Byte :=
  byteOf a.bank.val :: (twoBytes a.row.val ++ [a.kind.code] ++ twoBytes a.source.val ++ twoBytes a.dest.val
    ++ byteOf a.cursor :: maskBytes a.mask ++ optItem (a.passPos.map fun k => [byteOf k.val])
    ++ [byteOf a.passesDone, flagByte a.abort, byteOf a.corrected, byteOf a.poisoned])

/-- A claim kind's code in STATUS (R178; log 21). -/
def ClaimKind.statusCode : ClaimKind → Byte
  | .copy => 0x00
  | .switch => 0x01
  | .final => 0x02

/-- The claim the engine has placed, at the arbiter of the active record's bank (R74, R90). -/
def State.placedClaim (s : State) : Option ClaimKind := s.active.bind fun a => (s.bank a.bank).migClaim

/-- The kind and fields of an entry being programmed (Table 9-2; log 21). -/
def FuseEntry.statusBytes : FuseEntry → List Byte
  | .row b r d => 0x01 :: byteOf b.val :: (twoBytes r.val ++ [byteOf d.val])
  | .void b d => [0x02, byteOf b.val, byteOf d.val]

/-- How many bank units have not yet reported closed (R69). -/
def State.notReported (s : State) : Nat := s.banks.toList.countP fun x => !x.reported

/-- The contents of STATUS while LOADING (R150, R157): the skipped count and the next-free value are marked not yet set. That the load position
takes one byte is the model's choice (log 21). -/
def State.statusLoading (s : State) : List Byte :=
  s.part.code :: byteOf s.loadPos :: (s.summary.bytes false ++ s.recCounts ++ s.freeSpares)

/-- The programmer's state in STATUS, IDLE 0x00 and PROGRAMMING 0x01, in the order in which R142 names them; and while PROGRAMMING, behind one
presence byte, the slot, the entry kind and the fields. The codes and the grouping are the model's choice (log 21). -/
def programmerBytes (p : Option Programming) : List Byte :=
  flagByte p.isSome :: optItem (p.map fun p => byteOf p.slot.val :: p.entry.statusBytes)

/-- The contents of STATUS while RUNNING (Table 9-2). That whether a claim is placed and its kind are one presence byte and the kind is the
model's choice (log 21). -/
def State.statusRunning (s : State) : List Byte :=
  [s.part.code]
    ++ [s.link.code, byteOf s.held.length, byteOf s.reportLane.length, byteOf s.outbound.length]
    ++ optItem (if s.link = .resetting then some [byteOf s.notReported] else none)
    ++ s.recCounts ++ s.freeSpares ++ s.badSpares
    ++ [engineCode (s.active.map fun a => a.phase), byteOf s.migQueue.length] ++ optItem (s.active.map Active.bytes)
    ++ optItem (s.placedClaim.map fun k => [k.statusCode])
    ++ s.summary.bytes true ++ byteOf s.nextFree :: programmerBytes s.programmer ++ [byteOf s.suspectList.length]
    ++ [byteOf (noticeKinds.countP fun k => (s.notice k).pending),
        byteOf (noticeKinds.countP fun k => (s.notice k).pending && !(s.notice k).masked)]

/-- The contents of STATUS (R157). -/
def State.statusContents (s : State) : List Byte := if s.part = .loading then s.statusLoading else s.statusRunning

end Sys2Proof.Machine
end

