-- ==== Sys2Proof/Machine/Service.lean ====
section
/-!
DEFINITION. The service port: what each request does at its owner (09, 10), the checks and the exchange (R153 to R156, R177).
-/
namespace Sys2Proof.Machine

/-- What an owner answers: the state it leaves, the result and the contents of the response. -/
abbrev Answer := State × Result × List Byte

/-! ### The steering requests -/

/-- STEER at the steering table (R9, R10, R162). -/
def State.serveSteer (b : Bank) (r : LRow) (s : State) : Answer :=
  match s.steerClaim b r .managed with
  | (s1, .steering d none) => (s1, .accepted, [0x00, byteOf d.val])
  | (s1, .steering d (some f)) => (s1, .accepted, [0x01, byteOf d.val, byteOf f.val])
  | (s1, .noSpare) => (s1, .noSpare, [])
  | (s1, .queueFull) => (s1, .queueFull, [])
  | (s1, .busy) => (s1, .busy, [])
  | (s1, .isSealed) => (s1, .isSealed, [])

/-- RELEASE of a MIGRATING record whose job is pending: the cancel (R12, R163). -/
def State.cancelMove (b : Bank) (r : LRow) (d : Spare) (e : Rec) (old : Option (Spare × Bool)) (s : State) : Answer :=
  (({ s with migQueue := s.migQueue.erase (b, r) }).setBank b ((s.bank b).giveUp d e old), .ok,
    [if old.isSome then 0x01 else 0x00, byteOf d.val])

/-- Whether the engine is COPYING or RECOPYING and its chunk job does not hold the bank, so that an abort takes effect at once (R85). -/
def State.abortable (s : State) (a : Active) : Bool :=
  (decide (a.phase = .copying) || decide (a.phase = .recopying)) && decide ((s.bank a.bank).shadow ≠ .claimed .copy)

/-- RELEASE of the MIGRATING record of the active job (R13, R85, R163). -/
def State.releaseActive (a : Active) (s : State) : Answer :=
  let a1 := { a with abort := true }
  if a.abort then (s, .accepted, [0x02])
  else if s.abortable a then (s.abortNow a1, .accepted, [0x02])
  else ({ s with active := some a1 }, .accepted, [0x02])

/-- RELEASE of a STEERED record: the return (R14, R163). -/
def State.startReturn (b : Bank) (r : LRow) (d : Spare) (e : Rec) (s : State) : Answer :=
  if s.queueFull then (s, .queueFull, [])
  else ((s.setBank b ((s.bank b).restate d e .returning)).queueJob b r, .accepted, [0x03])

/-- RELEASE at the steering table (R12 to R14, R163). A MIGRATING record has its job pending or active (R70); one with neither, which R70
rules out, is treated as pending (log 26). -/
def State.serveRelease (b : Bank) (r : LRow) (s : State) : Answer :=
  match (s.bank b).recOf r with
  | none => (s, .notFound, [])
  | some (d, e) =>
    match e.state with
    | .migrating old =>
      match s.active with
      | some a => if a.bank = b ∧ a.row = r then s.releaseActive a else s.cancelMove b r d e old
      | none => s.cancelMove b r d e old
    | .steered => s.startReturn b r d e
    | .fused _ => (s, .isSealed, [])
    | .returning | .sealing _ => (s, .busy, [])

/-- SEAL at the steering table and the fuse store (R15, R142, R164). -/
def State.serveSeal (b : Bank) (r : LRow) (s : State) : Answer :=
  match (s.bank b).recOf r with
  | none => (s, .notFound, [])
  | some (d, e) =>
    match e.state with
    | .migrating _ | .returning | .sealing _ => (s, .busy, [])
    | .fused _ => (s, .isSealed, [])
    | .steered =>
      match s.programmerRefuses, toFin? 64 s.nextFree with
      | some r', _ => (s, r', [])
      | none, some n =>
        ((s.setBank b ((s.bank b).restate d e (.sealing n))).startProgramming n (.row b r d), .accepted, [0x00, byteOf n.val])
      | none, none => (s, .fuseFull, [])

/-- VOID at the steering table and the fuse store (R18, R142, R165). -/
def State.serveVoid (b : Bank) (d : Spare) (withSeal : Bool) (s : State) : Answer :=
  let marked := s.setBank b ((s.bank b).setSpare d (.bad false))
  match (s.bank b).spares.get d, withSeal with
  | .held, _ => (s, .inUse, [])
  | .free, false => (marked, .ok, [])
  | .bad _, false => (s, .ok, [])
  | .bad true, true => (s, .ok, [])
  | .free, true | .bad false, true =>
    match s.programmerRefuses, toFin? 64 s.nextFree with
    | some r, _ => (s, r, [])
    | none, some n => (marked.startProgramming n (.void b d), .accepted, [0x00, byteOf n.val])
    | none, none => (s, .fuseFull, [])

/-! ### The other requests -/

/-- LOOKUP (R158). -/
def State.serveLookup (b : Bank) (r : LRow) (s : State) : Answer :=
  if ((s.bank b).recOf r).isSome || (suspectOf s.suspectList b r).isSome then (s, .ok, s.lookupContents b r) else (s, .notFound, [])

/-- FORGET (R134, R166). -/
def State.serveForget (b : Bank) (r : LRow) (s : State) : Answer :=
  if (suspectOf s.suspectList b r).isSome then ({ s with suspectList := withoutSuspect s.suspectList b r }, .ok, [])
  else (s, .notFound, [])

/-- SET (R167): the response carries the value before. -/
def State.serveSet (i : Item) (v : Nat) (s : State) : Answer :=
  ({ s with settings := s.settings.set i v }, .ok, twoBytes (s.settings.get i))

/-- NOTICE_ACK (R175). That a NOT_FOUND response carries its count first, as an OK response does, is the model's choice (log 21). -/
def State.serveAck (k : NoticeKind) (s : State) : Answer :=
  if (s.notice k).pending then (s.setNotice k (s.notice k).acked, .ok, (s.notice k).bytes)
  else (s, .notFound, ({ s.notice k with count := 0 }).bytes)

/-- MASK (R172): the response carries the setting before and the entry. -/
def State.serveMask (k : NoticeKind) (on : Bool) (s : State) : Answer :=
  (s.setNotice k { s.notice k with masked := on }, .ok,
    flagByte (s.notice k).masked :: flagByte (s.notice k).pending :: (s.notice k).bytes)

/-- A request that passed the port's checks, taken by its owner as one event (R153). That FORGET_ALL carries its count, 0..32, in one byte is
the width R178 gives each count; R178 does not name FORGET_ALL among its responses (log 21). -/
def State.serve (c : Call) (s : State) : Answer :=
  match c with
  | .status => (s, .ok, s.statusContents)
  | .lookup b r => s.serveLookup b r
  | .list b => (s, .ok, listContents b (s.bank b))
  | .bank b => (s, .ok, (s.bank b).contents)
  | .steer b r => s.serveSteer b r
  | .release b r => s.serveRelease b r
  | .seal b r => s.serveSeal b r
  | .void b d f => s.serveVoid b d f
  | .suspects => (s, .ok, suspectsContents s.suspectList)
  | .forget b r => s.serveForget b r
  | .forgetAll => ({ s with suspectList := [] }, .ok, [byteOf s.suspectList.length])
  | .fuse n => (s, .ok, s.fuseContents n)
  | .set i v => s.serveSet i v
  | .get i => (s, .ok, twoBytes (s.settings.get i))
  | .noticeTop => (s, .ok, s.noticeTopContents)
  | .noticeAck k => s.serveAck k
  | .mask k on => s.serveMask k on

/-! ### The exchange -/

/-- The response of the request being served is ready: it is placed in the port, and SERVING becomes ANSWERED (R153). -/
def State.responseReady (s : State) : State :=
  match s.exchange with
  | .serving _ response => { s with exchange := .answered response }
  | .idle | .answered _ => s

/-- The response becomes ready within the step, unless it is late. Which step it becomes ready in is an operand (log 20). -/
def State.readyUnless (late : Bool) (s : State) : State := if late then s else s.responseReady

/-- SERVING is entered with a request, which its owner has taken or the port has refused, and its response (R153); and the response is then
ready, unless it is late. -/
def State.respond (late : Bool) (request : List Byte) (xn code : Byte) (r : Result) (contents : List Byte) (s : State) : State :=
  ({ s with exchange := .serving request (responseFrame xn code r contents) }).readyUnless late

/-- Whether a changing request repeats the last changing request taken (R156). -/
def State.repeats (s : State) (xn : Byte) (q : Request) : Option LastChanging :=
  if q.changing then s.lastChanging.filter fun l => decide (l.code = q.code) && decide (l.xn = xn) && decide (l.fields = q.fields)
  else none

/-- The last changing request record after a request was taken (R156). -/
def State.record (xn : Byte) (q : Request) (r : Result) (contents : List Byte) (s : State) : State :=
  if q.changing then
    { s with lastChanging := some { code := q.code, xn := xn, fields := q.fields, result := r, contents := contents } }
  else s

/-- A request answered by the port with a result and contents. -/
def State.answer (late : Bool) (xn : Byte) (q : Request) (r : Result) (contents : List Byte) (s : State) : State :=
  s.respond late (requestFrame xn q) xn q.code r contents

/-- A request taken past checks 1 to 3: refused by checks 4 and 5, or served and answered (R153, R155). -/
def State.takeCall (late : Bool) (xn : Byte) (q : Request) (s : State) : State :=
  match checkRequest q with
  | .error r => s.answer late xn q r []
  | .ok c =>
    let y := s.serve c
    (y.1.record xn q y.2.1 y.2.2).answer late xn q y.2.1 y.2.2

/-- A request frame of Table 11-4 completed: not taken while RESET_N is low; discarded while SERVING, and the request being served continues;
else checked and taken (R146, R153, R154, R155). -/
def State.takeRequest (late : Bool) (xn : Byte) (q : Request) (s : State) : State :=
  match s.part, s.exchange with
  | .reset, _ => s
  | _, .serving _ _ => s.readyUnless late
  | .loading, .idle | .loading, .answered _ =>
    if q = .status then s.takeCall late xn q else s.answer late xn q .notReady []
  | .running, .idle | .running, .answered _ =>
    match s.repeats xn q with
    | some l => s.answer late xn q .exists (l.result.code :: l.contents)
    | none => s.takeCall late xn q

/-- A request frame completed, read by its bytes (R154, R155, R177). -/
def State.takeRequestFrame (late : Bool) (frame : List Byte) (s : State) : State :=
  match parseRequestFrame frame with
  | none => s
  | some (_, xn, some q) => s.takeRequest late xn q
  | some (code, xn, none) =>
    match s.part, s.exchange with
    | .reset, _ => s
    | _, .serving _ _ => s.readyUnless late
    | _, _ => s.respond late frame xn code .unknownRequest []

/-- The frame that a response read finds (R153, R154). -/
def State.readFrame (s : State) : List Byte :=
  match s.exchange with
  | .idle => statusFrame 0x01
  | .serving _ _ => statusFrame 0x02
  | .answered f => f

/-- The exchange after `n` bytes of a response frame have been clocked out: read to its end, an answer is removed (R153, R177). -/
def State.exchangeAfterRead (s : State) (n : Nat) : Exchange :=
  match s.exchange with
  | .answered f => if f.length ≤ n then .idle else .answered f
  | .idle => .idle
  | .serving q f => .serving q f

/-- `n` bytes of a response clocked out: 0xFF beyond its end (R177); while RESET_N is low, bytes that cannot be relied on (R169; log
8). A read that finds the port SERVING finds *response pending*, and the response is ready after it unless it is late (R154; log 20). -/
def State.readResponse (late : Bool) (n : Nat) (s : State) : State :=
  if s.part = .reset then
    { s with servicePortOut := (List.range n).map (fun i => Config.freeByte (s.freeCount + i)), freeCount := s.freeCount + n }
  else
    ({ s with
      servicePortOut := (s.readFrame ++ List.replicate n 0xFF).take n, exchange := s.exchangeAfterRead n }).readyUnless late

end Sys2Proof.Machine
end

