-- ==== Sys2Proof/Machine/ServiceFamily.lean ====
section
/-!
DEFINITION. The commands of the service port: the seventeen requests, the frames that are no request, and the response read (09, 10, 11).
-/
namespace Sys2Proof.Machine

/-- STATUS (R157). -/
def execStatus (xn : Served Byte) (s : State) : Out := .next (s.takeRequest xn.late xn.given .status)

/-- LOOKUP (R158). -/
def execLookup (xn : Served Byte) (bank : Byte) (row : BitVec 16) (s : State) : Out := .next (s.takeRequest xn.late xn.given (.lookup bank row))

/-- LIST (R159). -/
def execListBank (xn : Served Byte) (bank : Byte) (s : State) : Out := .next (s.takeRequest xn.late xn.given (.list bank))

/-- BANK (R160). -/
def execBankState (xn : Served Byte) (bank : Byte) (s : State) : Out := .next (s.takeRequest xn.late xn.given (.bank bank))

/-- STEER (R162). -/
def execSteer (xn : Served Byte) (bank : Byte) (row : BitVec 16) (s : State) : Out := .next (s.takeRequest xn.late xn.given (.steer bank row))

/-- RELEASE (R163). -/
def execRelease (xn : Served Byte) (bank : Byte) (row : BitVec 16) (s : State) : Out := .next (s.takeRequest xn.late xn.given (.release bank row))

/-- SEAL (R164). -/
def execSealRow (xn : Served Byte) (bank : Byte) (row : BitVec 16) (s : State) : Out := .next (s.takeRequest xn.late xn.given (.seal bank row))

/-- VOID (R165). -/
def execVoidSpare (xn : Served Byte) (bank spare flag : Byte) (s : State) : Out := .next (s.takeRequest xn.late xn.given (.void bank spare flag))

/-- SUSPECTS (R161). -/
def execSuspects (xn : Served Byte) (s : State) : Out := .next (s.takeRequest xn.late xn.given .suspects)

/-- FORGET (R166). -/
def execForget (xn : Served Byte) (bank : Byte) (row : BitVec 16) (s : State) : Out := .next (s.takeRequest xn.late xn.given (.forget bank row))

/-- FORGET_ALL (R166). -/
def execForgetAll (xn : Served Byte) (s : State) : Out := .next (s.takeRequest xn.late xn.given .forgetAll)

/-- FUSE (R161). -/
def execFuse (xn : Served Byte) (slot : Byte) (s : State) : Out := .next (s.takeRequest xn.late xn.given (.fuse slot))

/-- SET (R167). -/
def execSetItem (xn : Served Byte) (item : Byte) (value : BitVec 16) (s : State) : Out := .next (s.takeRequest xn.late xn.given (.set item value))

/-- GET (R167). -/
def execGetItem (xn : Served Byte) (item : Byte) (s : State) : Out := .next (s.takeRequest xn.late xn.given (.get item))

/-- NOTICE_TOP (R174). -/
def execNoticeTop (xn : Served Byte) (s : State) : Out := .next (s.takeRequest xn.late xn.given .noticeTop)

/-- NOTICE_ACK (R175). -/
def execNoticeAck (xn : Served Byte) (kind : Byte) (s : State) : Out := .next (s.takeRequest xn.late xn.given (.noticeAck kind))

/-- MASK (R172). -/
def execMaskKind (xn : Served Byte) (kind setting : Byte) (s : State) : Out := .next (s.takeRequest xn.late xn.given (.mask kind setting))

/-- UNKNOWN_REQUEST (R155, R177): read by its own bytes. -/
def execUnknownRequest (frame : Served (List Byte)) (s : State) : Out := .next (s.takeRequestFrame frame.late frame.given)

/-- REQUEST_FRAME_DISCARDED (R177): the exchange is left as it was. -/
def execRequestFrameDiscarded (_bytes : List Byte) (s : State) : Out := .next s

/-- RESPONSE_READ (R153, R154, R177). -/
def execResponseRead (clocked : Served Nat) (s : State) : Out := .next (s.readResponse clocked.late clocked.given)

end Sys2Proof.Machine
end

