-- ==== Sys2Proof/Machine/Dispatch.lean ====
section
/-!
DEFINITION. The effect of each command on everything but the queue: one arm for each constructor of Instr, each one call of its meaning.
-/
namespace Sys2Proof.Machine

def exec (i : Instr) (s : State) : Host.Outcome State Fault Refusal :=
  match i with
  | .orderOpen rest => Sys2Proof.Machine.execOrderOpen rest s
  | .orderRead rest => Sys2Proof.Machine.execOrderRead rest s
  | .orderWrite rest => Sys2Proof.Machine.execOrderWrite rest s
  | .orderClose rest => Sys2Proof.Machine.execOrderClose rest s
  | .orderRefresh rest => Sys2Proof.Machine.execOrderRefresh rest s
  | .orderReport rest => Sys2Proof.Machine.execOrderReport rest s
  | .unknownOrderFrame frame => Sys2Proof.Machine.execUnknownOrderFrame frame s
  | .linkReset rest sending => Sys2Proof.Machine.execLinkReset rest sending s
  | .outboundSend => Sys2Proof.Machine.execOutboundSend s
  | .headOpen b => Sys2Proof.Machine.execHeadOpen b s
  | .headRead b => Sys2Proof.Machine.execHeadRead b s
  | .headWrite b => Sys2Proof.Machine.execHeadWrite b s
  | .headClose b => Sys2Proof.Machine.execHeadClose b s
  | .headRefresh b => Sys2Proof.Machine.execHeadRefresh b s
  | .orderCompletion b => Sys2Proof.Machine.execOrderCompletion b s
  | .bankArbiterChoice b beforeClaim => Sys2Proof.Machine.execBankArbiterChoice b beforeClaim s
  | .chunkJobEnd => Sys2Proof.Machine.execChunkJobEnd s
  | .finalJobEnd => Sys2Proof.Machine.execFinalJobEnd s
  | .tick first => Sys2Proof.Machine.execTick first s
  | .slotCompletion b => Sys2Proof.Machine.execSlotCompletion b s
  | .targetServiceEnd b => Sys2Proof.Machine.execTargetServiceEnd b s
  | .reportTake => Sys2Proof.Machine.execReportTake s
  | .status xn => Sys2Proof.Machine.execStatus xn s
  | .lookup xn bank row => Sys2Proof.Machine.execLookup xn bank row s
  | .listBank xn bank => Sys2Proof.Machine.execListBank xn bank s
  | .bankState xn bank => Sys2Proof.Machine.execBankState xn bank s
  | .steer xn bank row => Sys2Proof.Machine.execSteer xn bank row s
  | .release xn bank row => Sys2Proof.Machine.execRelease xn bank row s
  | .sealRow xn bank row => Sys2Proof.Machine.execSealRow xn bank row s
  | .voidSpare xn bank spare flag => Sys2Proof.Machine.execVoidSpare xn bank spare flag s
  | .suspects xn => Sys2Proof.Machine.execSuspects xn s
  | .forget xn bank row => Sys2Proof.Machine.execForget xn bank row s
  | .forgetAll xn => Sys2Proof.Machine.execForgetAll xn s
  | .fuse xn slot => Sys2Proof.Machine.execFuse xn slot s
  | .setItem xn item value => Sys2Proof.Machine.execSetItem xn item value s
  | .getItem xn item => Sys2Proof.Machine.execGetItem xn item s
  | .noticeTop xn => Sys2Proof.Machine.execNoticeTop xn s
  | .noticeAck xn kind => Sys2Proof.Machine.execNoticeAck xn kind s
  | .maskKind xn kind setting => Sys2Proof.Machine.execMaskKind xn kind setting s
  | .unknownRequest frame => Sys2Proof.Machine.execUnknownRequest frame s
  | .requestFrameDiscarded bytes => Sys2Proof.Machine.execRequestFrameDiscarded bytes s
  | .responseRead clocked => Sys2Proof.Machine.execResponseRead clocked s
  | .programmingEnd readback => Sys2Proof.Machine.execProgrammingEnd readback s
  | .loadSlotRead weak => Sys2Proof.Machine.execLoadSlotRead weak s
  | .loadingPrechargeDone b => Sys2Proof.Machine.execLoadingPrechargeDone b s
  | .partReset fuseBytes fuseMask progress => Sys2Proof.Machine.execPartReset fuseBytes fuseMask progress s
  | .partResetRelease => Sys2Proof.Machine.execPartResetRelease s
  | .aggressorServiced b => Sys2Proof.Machine.execAggressorServiced b s

end Sys2Proof.Machine
end

