-- ==== Sys2Proof/Safety.lean ====
section
/-!
DEFINITION. What the claims about the model say of a state: the command that carries an order or a request, when a request is taken, and
the invariants that every step keeps.
-/
namespace Sys2Proof.Machine

/-! ### Commands that carry an order or a request -/

/-- The command that is the arrival of an order's frame (Table 11-1). -/
def orderCommand (o : Order) : Instr :=
  match o with
  | .bank _ _ (.opn _) => .orderOpen (orderRest o)
  | .bank _ _ (.read _) => .orderRead (orderRest o)
  | .bank _ _ (.write _ _) => .orderWrite (orderRest o)
  | .bank _ _ .close => .orderClose (orderRest o)
  | .bank _ _ .refresh => .orderRefresh (orderRest o)
  | .report _ _ _ _ => .orderReport (orderRest o)

/-- The tag of an order. -/
def orderTag : Order → Tag
  | .bank t _ _ => t
  | .report t _ _ _ => t

/-- The commands that are the arrival of a frame of a known order kind, with the kind byte (Table 11-1). -/
def knownFrames (rest : List Byte) : List (Byte × Instr) :=
  [(kindOpen, .orderOpen rest), (kindRead, .orderRead rest), (kindWrite, .orderWrite rest), (kindClose, .orderClose rest),
   (kindRefresh, .orderRefresh rest), (kindReport, .orderReport rest)]

/-- The command that is a request's frame completed with an exchange number (Table 11-4); `late` leaves the port SERVING (log 20). -/
def requestCommand (xn : Byte) (late : Bool) : Request → Instr
  | .status => .status ⟨xn, late⟩
  | .lookup b r => .lookup ⟨xn, late⟩ b r
  | .list b => .listBank ⟨xn, late⟩ b
  | .bank b => .bankState ⟨xn, late⟩ b
  | .steer b r => .steer ⟨xn, late⟩ b r
  | .release b r => .release ⟨xn, late⟩ b r
  | .seal b r => .sealRow ⟨xn, late⟩ b r
  | .void b d f => .voidSpare ⟨xn, late⟩ b d f
  | .suspects => .suspects ⟨xn, late⟩
  | .forget b r => .forget ⟨xn, late⟩ b r
  | .forgetAll => .forgetAll ⟨xn, late⟩
  | .fuse n => .fuse ⟨xn, late⟩ n
  | .set i v => .setItem ⟨xn, late⟩ i v
  | .get i => .getItem ⟨xn, late⟩ i
  | .noticeTop => .noticeTop ⟨xn, late⟩
  | .noticeAck k => .noticeAck ⟨xn, late⟩ k
  | .mask k m => .maskKind ⟨xn, late⟩ k m

/-- A bank number as the bank field of a request. -/
def bankByte (b : Bank) : Byte := byteOf b.val

/-- A logical row as the row field of a request. -/
def rowWord (r : LRow) : BitVec 16 := BitVec.ofNat 16 r.val

/-- Whether the port is SERVING a request (R153). -/
def State.isServing (s : State) : Bool :=
  match s.exchange with
  | .serving _ _ => true
  | .idle | .answered _ => false

/-- A request is served: the part is RUNNING, the port is not SERVING, and the request repeats no changing request (R153, R155, R156). -/
def State.serves (s : State) (xn : Byte) (q : Request) : Prop :=
  s.part = .running ∧ s.isServing = false ∧ s.repeats xn q = none

/-- The exchange after a request: ANSWERED with its response, or, while that is late, SERVING it (R153; log 20). -/
def exchangeAfter (late : Bool) (request response : List Byte) : Exchange :=
  if late then .serving request response else .answered response

/-- The state after a request that changes nothing was answered. -/
def State.answeredRead (s : State) (late : Bool) (xn : Byte) (q : Request) (r : Result) (contents : List Byte) : State :=
  { s with exchange := exchangeAfter late (requestFrame xn q) (responseFrame xn q.code r contents) }

/-- The state `t` that a changing request left, with its response and the last changing request record (R156). -/
def State.answeredChange (t : State) (late : Bool) (xn : Byte) (q : Request) (r : Result) (contents : List Byte) : State :=
  { t with
    lastChanging := some { code := q.code, xn := xn, fields := q.fields, result := r, contents := contents }
    exchange := exchangeAfter late (requestFrame xn q) (responseFrame xn q.code r contents) }

/-- Whether the head of the lane is a candidate of the arbiter: an OPEN or a REFRESH (R37). -/
def BankState.laneAsks (x : BankState) : Bool :=
  match x.lane with
  | ⟨_, .opn _⟩ :: _ | ⟨_, .refresh⟩ :: _ => true
  | ⟨_, .read _⟩ :: _ | ⟨_, .write _ _⟩ :: _ | ⟨_, .close⟩ :: _ | [] => false

/-- Whether a bank is OPEN. -/
def BankState.isOpen (x : BankState) : Bool :=
  match x.shadow with
  | .opened _ _ => true
  | .closed | .claimed _ => false

/-- Whether a READ or WRITE is in progress. -/
def BankState.burstInProgress (x : BankState) : Bool :=
  match x.inProgress with
  | some (.burst _) => true
  | some .sweeping | none => false

/-- No record of a bank is of row r. -/
def BankState.noRecord (x : BankState) (r : LRow) : Prop := ∀ d e, x.records.get d = some e → e.row ≠ r

/-- Spare d is the lowest-numbered FREE spare of a bank (R5). -/
def BankState.lowestFree (x : BankState) (d : Spare) : Prop := x.spares.get d = .free ∧ ∀ d' : Spare, d' < d → x.spares.get d' ≠ .free

/-- A bank and its TARGET_OVERFLOW entry after an activation of row p of bank b against threshold T: the tracker and the target queue count it
(R92), and a refused offer raises the notice (R99). -/
def afterActivation (T : Nat) (b : Bank) (p : PRow) (y : BankState × NoticeEntry) : BankState × NoticeEntry :=
  (y.1.counted T p,
    if offers y.1.tracker T p && decide (offerOf y.1.targets p = .refused) then y.2.raised (some b) none (.phys p) else y.2)

/-- Whether an address field of a request names nothing (R155 check 4). -/
def badAddress : Request → Bool
  | .lookup b r | .steer b r | .release b r | .seal b r | .forget b r => decide (48 ≤ b.toNat) || decide (32768 ≤ r.toNat)
  | .list b | .bank b => decide (48 ≤ b.toNat)
  | .void b d _ => decide (48 ≤ b.toNat) || decide (8 ≤ d.toNat)
  | .fuse n => decide (64 ≤ n.toNat)
  | .status | .suspects | .forgetAll | .set _ _ | .get _ | .noticeTop | .noticeAck _ | .mask _ _ => false

/-- Whether a value field of a request names nothing or lies outside its range (R155 check 5). -/
def badValue : Request → Bool
  | .void _ _ f => decide (2 ≤ f.toNat)
  | .set i v => (itemOf i).all fun x => !x.inRange v.toNat
  | .get i => (itemOf i).isNone
  | .noticeAck k => (kindOf k).isNone
  | .mask k m => (kindOf k).isNone || decide (2 ≤ m.toNat)
  | .status | .lookup _ _ | .list _ | .bank _ | .steer _ _ | .release _ _ | .seal _ _ | .suspects | .forget _ _ | .forgetAll | .fuse _
  | .noticeTop => false

/-- A stored word with one of its 72 bits inverted: data bits 0..63, then check bits 0..7 (R180). -/
def flipBit (w : CodeWord) (i : Fin 72) : CodeWord :=
  if i.val < 64 then { w with data := w.data ^^^ (1#64 <<< i.val) } else { w with check := w.check ^^^ (1#8 <<< (i.val - 64)) }

/-! ### Invariants

Each is a property of a state, decidable, and kept by every step on its own, but for `State.sealsOk` and `State.jobsOk`, which are kept with those they
stand beside in `State.steeringOk` and `State.migrationOk`. -/

/-- The stack's memory is in canonical form (log 5). -/
abbrev State.stackOk (s : State) : Prop := Memory.wf s.stack = true

/-- The notice table and ALERT: a kind is pending exactly when its count is above 0, a count is at most 255, and ALERT is asserted
exactly while some kind is pending and unmasked (R170, R173). -/
abbrev State.noticesOk (s : State) : Prop :=
  (∀ i : Fin 13, ((s.notices.get i).pending = true ↔ 1 ≤ (s.notices.get i).count) ∧ (s.notices.get i).count ≤ 255)
    ∧ s.alert = alertLevel s.notices

/-- Every configuration item lies in its range (Table 9-3). -/
abbrev Settings.inRange (c : Settings) : Prop :=
  (1 ≤ c.tickInterval ∧ c.tickInterval ≤ 4095) ∧ (4 ≤ c.urgentLevel ∧ c.urgentLevel ≤ 11) ∧ (64 ≤ c.threshold ∧ c.threshold ≤ 16384)
    ∧ (1 ≤ c.reach ∧ c.reach ≤ 2) ∧ c.targetsPerRef ≤ 4 ∧ (1 ≤ c.correctedThr ∧ c.correctedThr ≤ 255)
    ∧ (1 ≤ c.uncorrectedThr ∧ c.uncorrectedThr ≤ 15) ∧ (1 ≤ c.passoverLimit ∧ c.passoverLimit ≤ 15) ∧ c.recopyLimit ≤ 7

/-- The configuration is in range, and so each passover count is at most 15 (Table 9-3, R38). -/
abbrev State.settingsOk (s : State) : Prop := s.settings.inRange ∧ ∀ b : Bank, (s.bank b).passover ≤ 15

/-- The intake: at most 32 held orders, with different tags (R55); at most 32 suspects with different keys and counts in range (R124);
at most 8 pending jobs (R70). -/
abbrev State.listsOk (s : State) : Prop :=
  s.held.length ≤ 32 ∧ s.held.Nodup ∧ s.suspectList.length ≤ 32 ∧ (s.suspectList.map fun e => (e.bank, e.row)).Nodup
    ∧ (∀ e ∈ s.suspectList, e.corrected ≤ 255 ∧ e.uncorrected ≤ 15 ∧ 1 ≤ e.corrected + e.uncorrected) ∧ s.migQueue.length ≤ 8

/-- Whether a message is an intake REJECT. -/
def OutMsg.isIntakeReject : OutMsg → Bool
  | .intakeReject _ _ => true
  | .reply _ _ _ | .ready | .need _ | .lost _ => false

/-- The intake has at most one unsent intake REJECT, and frames wait on the link only while one stands unsent (R59). -/
abbrev State.intakeOk (s : State) : Prop := s.outbound.countP OutMsg.isIntakeReject ≤ 1 ∧ (s.waiting ≠ [] → s.rejectUnsent = true)

/-- A tracker and target queue: no two entries of one row, at most four queued rows, none twice (R91, R98). -/
abbrev BankState.trackerOk (x : BankState) : Prop :=
  (∀ i j : Fin 6, (x.tracker.get i).isSome = true → (x.tracker.get i).map TrackEntry.row = (x.tracker.get j).map TrackEntry.row → i = j)
    ∧ x.targets.length ≤ 4 ∧ x.targets.Nodup

/-- Every bank's tracker and target queue. -/
abbrev State.trackersOk (s : State) : Prop := ∀ b : Bank, (s.bank b).trackerOk

/-- Whether a bank is held by a job of the refresh unit. -/
def BankState.inRefresh (x : BankState) : Bool := x.shadow = .claimed .sweep || x.shadow = .claimed .forced

/-- A bank unit and its refresh state. The debt is at most 12 and the pointer at most 4096 (Table 6-1); a slot in progress is the slot of
the pointer; a slot or a target service, never both, is in progress exactly while a SWEEP or FORCED job holds the bank (R109, R116, R117);
a READ or WRITE in progress stands at the head of the lane of an OPEN bank, and a REFRESH in progress at the head of the lane of a bank
held by its SWEEP job (R32, R33, R35); the revoked flag is set only while the bank is not OPEN (R42); no forced claim stands while a
FORCED job holds the bank (R39), and on an OPEN bank one stands only behind an order in progress (R40). -/
abbrev BankState.unitOk (x : BankState) : Prop :=
  x.debt ≤ 12 ∧ x.pointer ≤ 4096 ∧ (x.slot = none ∨ x.slot = some x.pointer)
    ∧ x.inRefresh = (x.slot.isSome != x.service.isSome) ∧ ¬ (x.slot.isSome = true ∧ x.service.isSome = true)
    ∧ (x.burstInProgress = true → x.isOpen = true ∧ x.lane ≠ [])
    ∧ (x.inProgress = some .sweeping → x.shadow = .claimed .sweep ∧ x.lane ≠ [])
    ∧ (x.revoked = true → x.isOpen = false) ∧ (x.forced = true → x.shadow ≠ .claimed .forced)
    ∧ (x.forced = true → x.isOpen = true → x.burstInProgress = true)

/-- Every bank unit. -/
abbrev State.unitsOk (s : State) : Prop := ∀ b : Bank, (s.bank b).unitOk

/-- The claim kind of an engine state (R74). -/
def Phase.claim : Phase → ClaimKind
  | .copying | .recopying => .copy
  | .switching => .switch
  | .final => .final

/-- The job kind of a claim kind (R36). -/
def ClaimKind.job : ClaimKind → JobKind
  | .copy => .copy
  | .switch => .switch
  | .final => .final

/-- Whether a migration job holds a bank. -/
def BankState.inMigration (x : BankState) : Bool :=
  x.shadow = .claimed .copy || x.shadow = .claimed .switch || x.shadow = .claimed .final

/-- Bank b as the engine sees it: at the active record's bank the claim of the engine's state waits, or, but for a SWITCH, its job holds
the bank; at every other bank, and at every bank while the engine is IDLE, neither (R73, R74, R82). -/
def engineBankOk (act : Option Active) (b : Bank) (x : BankState) : Bool :=
  match act with
  | some a =>
    if a.bank = b then
      (decide (x.migClaim = some a.phase.claim) && !x.inMigration)
        || (decide (x.migClaim = none) && decide (a.phase ≠ .switching) && decide (x.shadow = .claimed a.phase.claim.job))
    else decide (x.migClaim = none) && !x.inMigration
  | none => decide (x.migClaim = none) && !x.inMigration

/-- The active context: the cursor is below 8 in COPYING and 8 after it; while the next chunk of a recopy pass is waited for, a flagged
chunk lies above the pass position, and while it is copied the position names it (R78, R79, R80). -/
def Active.ok (x : BankState) (a : Active) : Bool :=
  match a.phase with
  | .copying => decide (a.cursor < 8)
  | .recopying => decide (a.cursor = 8) && (if x.migClaim = none then a.passPos.isSome else a.nextFlagged.isSome)
  | .switching | .final => decide (a.cursor = 8)

/-- The migration engine has one claim placed or holds one bank while a job is active, and neither while it is IDLE (R73, R74). -/
abbrev State.engineOk (s : State) : Prop :=
  (∀ b : Bank, engineBankOk s.active b (s.bank b) = true) ∧ s.active.all (fun a => a.ok (s.bank a.bank)) = true

/-- The from-spare that a slot's record names, if any (R1). -/
def BankState.fromSpare (x : BankState) (d : Spare) : Option Spare := (x.records.get d).bind fun e => e.state.old.map Prod.fst

/-- The steering table of one bank: no two records of one row (R3); a spare is HELD exactly when a record stands in its slot or names it as
its from-spare (R4); a from-spare's own slot is empty, and no two records name one from-spare (R3, R4). -/
abbrev BankState.tableOk (x : BankState) : Prop :=
  (∀ d d' : Spare, (x.records.get d).isSome = true → (x.records.get d).map Rec.row = (x.records.get d').map Rec.row → d = d')
    ∧ (∀ d : Spare, x.spares.get d = .held ↔ ((x.records.get d).isSome = true ∨ ∃ d' : Spare, x.fromSpare d' = some d))
    ∧ (∀ d f : Spare, x.fromSpare d = some f → x.records.get f = none)
    ∧ ∀ d d' : Spare, (x.fromSpare d).isSome = true → x.fromSpare d = x.fromSpare d' → d = d'

/-- Whether a record's state has a job: MIGRATING or RETURNING (R70). -/
def RecState.hasJob : RecState → Bool
  | .migrating _ | .returning => true
  | .steered | .sealing _ | .fused _ => false

/-- The keys of the active job and of the pending jobs. -/
def State.jobKeys (s : State) : List (Bank × LRow) := (s.active.map fun a => (a.bank, a.row)).toList ++ s.migQueue

/-- The jobs and the records: no two jobs, pending or active, name one key (R70); each names a MIGRATING or RETURNING record, and each such
record is named by one (R70); the active job's kind and rows are those its record gives (R7, R72), and its abort is pending only for a move
(R13); and while the engine is IDLE no job is pending (R71). -/
abbrev State.jobsOk (s : State) : Prop :=
  s.jobKeys.Nodup
    ∧ s.jobKeys.all (fun k => ((s.bank k.1).recOf k.2).any fun y => y.2.state.hasJob) = true
    ∧ (∀ b : Bank, ∀ d : Spare,
        ((s.bank b).records.get d).all (fun e => !e.state.hasJob || decide ((b, e.row) ∈ s.jobKeys)) = true)
    ∧ s.active.all (fun a =>
        (((s.bank a.bank).recOf a.row).any fun y => decide (y.2.move y.1 = some (a.kind, a.source, a.dest)))
          && (!a.abort || decide (a.kind = .move))) = true
    ∧ (s.active = none → s.migQueue = [])

/-- Whether a spare is BAD. -/
def SpareState.isBad : SpareState → Bool
  | .bad _ => true
  | .free | .held => false

/-- The steering table and the spare pool of every bank; and a spare whose VOID entry is being programmed is BAD (R18). -/
abbrev State.tableOk (s : State) : Prop :=
  (∀ b : Bank, (s.bank b).tableOk)
    ∧ s.programmer.all (fun p =>
        match p.entry with
        | .void b d => ((s.bank b).spares.get d).isBad
        | .row _ _ _ => true) = true

/-- The migration engine with its jobs and their records. -/
abbrev State.migrationOk (s : State) : Prop := s.tableOk ∧ s.engineOk ∧ s.jobsOk

/-- The seal of the record e in slot d of bank b. A SEALED record names a slot whose image is its own ROW entry (R17); a SEALING record's
entry is the one in programming (R15). -/
def State.sealOf (s : State) (b : Bank) (d : Spare) (e : Rec) : Bool :=
  match e.state with
  | .fused n => decide (s.image.get n = .entry (.row b e.row d))
  | .sealing n => decide (s.programmer = some { slot := n, entry := .row b e.row d })
  | .migrating _ | .steered | .returning => true

/-- The seals: of every record; the slot in programming shows its entry and lies below the pointer (R142); and no slot at or above the pointer,
or while the part is LOADING above the load position, is anything but BLANK (R140, R147). -/
abbrev State.sealsOk (s : State) : Prop :=
  (∀ b : Bank, ∀ d : Spare, ((s.bank b).records.get d).all (s.sealOf b d) = true)
    ∧ s.programmer.all (fun p => decide (s.image.get p.slot = .inProgramming p.entry) && decide (p.slot.val < s.nextFree)) = true
    ∧ (s.part = .running → ∀ n : FuseNo, s.nextFree ≤ n.val → s.image.get n = .blank)
    ∧ (s.part = .loading → s.programmer = none ∧ (∀ n : FuseNo, s.loadPos ≤ n.val → s.image.get n = .blank)
        ∧ (s.loadPos = 64 → ∀ n : FuseNo, s.nextFree ≤ n.val → s.image.get n = .blank))

/-- The steering table with its seals. -/
abbrev State.steeringOk (s : State) : Prop := s.tableOk ∧ s.sealsOk

/-- The tag of a reply to an order, if the message is one. -/
def OutMsg.replyTag : OutMsg → Option Tag
  | .reply t _ _ => some t
  | .intakeReject _ _ | .ready | .need _ | .lost _ => none

/-- The tags of the orders in the lanes, of the REPORTs in the report lane, and of the replies in the outbound queue. -/
def State.placedTags (s : State) : List Tag :=
  (allBanks.flatMap fun b => (s.bank b).lane.map fun o => o.tag) ++ (s.reportLane.map fun r => r.tag)
    ++ s.outbound.filterMap OutMsg.replyTag

/-- Every held order stands in exactly one place: while the link is UP the held tags are those of the orders in the lanes, the report lane
and the outbound queue, each as often (R56). While it is not UP no order is held, no reply is queued and no REPORT waits (R66, R64);
in RESETTING a bank unit that has reported has an empty lane, and one that has not completes a READ or WRITE (R44, R46); in DOWN every
lane is empty. The link is not DOWN only while the part is RUNNING (R50). -/
abbrev State.ordersOk (s : State) : Prop :=
  (s.link = .up → s.held.Perm s.placedTags)
    ∧ (s.link ≠ .up → s.held = [] ∧ s.reportLane = [] ∧ s.outbound.filterMap OutMsg.replyTag = [])
    ∧ (s.link = .resetting → ∀ b : Bank, ((s.bank b).reported = true → (s.bank b).lane = [] ∧ (s.bank b).inProgress = none)
        ∧ ((s.bank b).reported = false → (s.bank b).burstInProgress = true ∧ (s.bank b).lane.length ≤ 1))
    ∧ (s.link = .down → ∀ b : Bank, (s.bank b).lane = [] ∧ (s.bank b).inProgress = none)
    ∧ (s.part ≠ .running → s.link = .down)

end Sys2Proof.Machine
end

