-- ==== Sys2Proof/Certificates/Slice0/Obligations.lean ====
section
/-!
DEFINITION. The statements about the model, for the provers. Each is a Prop; none is proved here. A rule number in a docstring is a rule of
spec/. Where a statement rests on a choice of the model, its docstring names the log entry.
-/
section
open Sys2Proof Sys2Proof.Machine

/-! ### The step -/

/-- A step takes the command at the front of the queue and is that command's effect with the queue's rest; on an empty queue the block idles
(log 2). -/
def Obligations.StepTakesTheFrontCommand : Prop :=
  (∀ (c : Instr) (rest : List Instr) (s : State), s.pending = c :: rest → step s = exec c { s with pending := rest })
    ∧ ∀ s : State, s.pending = [] → step s = .next s

/-- Every command answers a next state, in every state, and leaves the queue as it was: no event of the spec stops the part. That a command
naming an event that cannot take place in the state answers next as well is the model's choice (log 1). -/
def Obligations.EveryCommandAnswersNextAndKeepsTheQueue : Prop :=
  ∀ (c : Instr) (s : State), ∃ t, exec c s = .next t ∧ t.pending = s.pending

/-- The values that the spec gives for a part reset, right after RESET_N returns high (R146, R26, R47, R50, R89, R105, R111, R122, R136,
R169, R171, Table 9-3). That this moment is the state right after reset is the model's choice (log 3). -/
def Obligations.ResetValues : Prop :=
  State.reset.part = .loading ∧ State.reset.timer = none ∧ State.reset.link = .down
    ∧ State.reset.held = [] ∧ State.reset.reportLane = [] ∧ State.reset.outbound = []
    ∧ State.reset.migQueue = [] ∧ State.reset.active = none ∧ (∀ i : Fin 8, (State.reset.buffer.get i).poison = false)
    ∧ State.reset.suspectList = [] ∧ State.reset.programmer = none ∧ State.reset.nextFree = 0 ∧ State.reset.loadPos = 0
    ∧ (∀ n : FuseNo, State.reset.image.get n = .blank)
    ∧ State.reset.summary = { entries := 0, conflicts := 0, spoiled := 0, skipped := 0, nextFree := none }
    ∧ State.reset.exchange = .idle ∧ State.reset.lastChanging = none
    ∧ State.reset.settings = {
        tickInterval := 39, urgentLevel := 8, threshold := 2048, reach := 1, targetsPerRef := 2, correctedThr := 16,
        uncorrectedThr := 1, autoSteer := false, passoverLimit := 4, recopyLimit := 3 }
    ∧ (∀ k : Fin 13, State.reset.notices.get k =
        { pending := false, count := 0, bank := none, row := none, detail := none, masked := false })
    ∧ State.reset.alert = false
    ∧ ∀ b : Bank, (State.reset.bank b).shadow = .closed ∧ (State.reset.bank b).lane = [] ∧ (State.reset.bank b).inProgress = none
        ∧ (State.reset.bank b).revoked = false ∧ (State.reset.bank b).passover = 0 ∧ (State.reset.bank b).forced = false
        ∧ (State.reset.bank b).migClaim = none ∧ (State.reset.bank b).pointer = 0 ∧ (State.reset.bank b).debt = 0
        ∧ (State.reset.bank b).need = false ∧ (State.reset.bank b).slot = none ∧ (State.reset.bank b).targets = []
        ∧ (∀ i : Fin 6, (State.reset.bank b).tracker.get i = none)
        ∧ ∀ d : Spare, (State.reset.bank b).records.get d = none ∧ (State.reset.bank b).spares.get d = .free

/-! ### The order link -/

/-- An order that meets none of the conditions of R52 is accepted: it takes a slot, its tag is held, and it joins the tail of its bank's
lane, a REPORT the tail of the report lane (R55, R30, R61); the commands OPEN, READ, WRITE, CLOSE, REFRESH and REPORT, for every order. -/
def Obligations.AcceptedOrderJoinsItsLane : Prop :=
  ∀ (o : Order) (s : State), s.part ≠ .reset → s.rejectUnsent = false → s.link = .up → s.held.length < 32 → orderTag o ∉ s.held →
    exec (orderCommand o) s = .next
      (match o with
        | .bank t b op => { s.setBank b { s.bank b with lane := (s.bank b).lane ++ [⟨t, op⟩] } with held := t :: s.held }
        | .report t b r k => { s with held := t :: s.held, reportLane := s.reportLane ++ [⟨t, b, r, k⟩] })

/-- The acceptance checks in their order (R52): a frame of a known kind with tag byte `t` and further bytes `fields` is rejected NOT_READY
without a notice while the link is not UP, else FULL at 32 held orders, else TAG_IN_USE when its tag is held, else MALFORMED when its
fields are (EncodingsReadBack says when they are); each with ORDER_FAULT but the first (R54). The bank of its subject is that of the bank byte
when it holds 0 to 47 and absent when it holds 48 to 63; the row is that of the row field of an OPEN or REPORT when it holds 0 to 32767, and
absent when it holds more and for the other kinds. A bank byte with a set high bit and a frame too short for the field are read as log 18
says. -/
def Obligations.AcceptanceChecks : Prop :=
  ∀ (t : Byte) (fields : List Byte) (k : Byte) (c : Instr) (s : State), (k, c) ∈ knownFrames (t :: fields) →
    s.part ≠ .reset → s.rejectUnsent = false →
      (s.link ≠ .up → exec c s = .next { s with outbound := s.outbound ++ [.intakeReject (frameTag t) .notReady] })
      ∧ (s.link = .up → ∀ r : Reason,
          (32 ≤ s.held.length ∧ r = .full
            ∨ s.held.length < 32 ∧ frameTag t ∈ s.held ∧ r = .tagInUse
            ∨ s.held.length < 32 ∧ frameTag t ∉ s.held ∧ parseOrder k (t :: fields) = none ∧ r = .malformed) →
          exec c s = .next (({ s with outbound := s.outbound ++ [.intakeReject (frameTag t) r] } : State).raise .orderFault
            (faultBank k fields) (faultRow k fields) (.fault r (some (frameTag t)))))
      ∧ (∀ (b : Bank) (l : List Byte), fields = byteOf b.val :: l → faultBank k fields = some b)
      ∧ (∀ (x : Byte) (l : List Byte), fields = x :: l → 48 ≤ x.toNat → x.toNat < 64 → faultBank k fields = none)
      ∧ (∀ (x : Byte) (r : LRow) (l : List Byte), k = 0x01 ∨ k = 0x06 → fields = x :: (twoBytes r.val ++ l) → faultRow k fields = some r)
      ∧ (∀ (x hi lo : Byte) (l : List Byte), fields = x :: hi :: lo :: l → 0x80 ≤ hi.toNat → faultRow k fields = none)
      ∧ (k ≠ 0x01 → k ≠ 0x06 → faultRow k fields = none)

/-- A frame whose kind byte is none of Table 11-1's: of one byte it is discarded, with ORDER_FAULT only while the link is UP; of two bytes or
more it is checked as an order: rejected NOT_READY without a notice while the link is not UP, else FULL at 32 held orders, else TAG_IN_USE
when its tag is held, else malformed at check 4, each of these with an ORDER_FAULT that has no subject (R176, R52, R53, R54). -/
def Obligations.UnknownFrames : Prop :=
  ∀ (k : Byte) (s : State), k ≠ kindLinkReset → s.part ≠ .reset → s.rejectUnsent = false →
    (s.link = .up → exec (.unknownOrderFrame [k]) s = .next (s.raise .orderFault none none (.fault .malformed none)))
    ∧ (s.link ≠ .up → exec (.unknownOrderFrame [k]) s = .next s)
    ∧ ∀ (t : Byte) (fields : List Byte), (k.toNat = 0 ∨ 6 < k.toNat) →
        (s.link ≠ .up → exec (.unknownOrderFrame (k :: t :: fields)) s =
          .next { s with outbound := s.outbound ++ [.intakeReject (frameTag t) .notReady] })
        ∧ (s.link = .up → ∀ r : Reason,
            (32 ≤ s.held.length ∧ r = .full
              ∨ s.held.length < 32 ∧ frameTag t ∈ s.held ∧ r = .tagInUse
              ∨ s.held.length < 32 ∧ frameTag t ∉ s.held ∧ r = .malformed) →
            exec (.unknownOrderFrame (k :: t :: fields)) s =
              .next (({ s with outbound := s.outbound ++ [.intakeReject (frameTag t) r] } : State).raise .orderFault none none
                (.fault r (some (frameTag t)))))

/-- While an intake REJECT stands unsent in the outbound queue the next frames wait on the link, in the order sent (R59); while RESET_N is
low no frame is taken (R146); for every order frame, for a LINK_RESET and for any other frame. A LINK_RESET taken while the link is RESETTING
or DOWN has no effect (R67). That the frames that wait stand in a queue without a bound is the model's choice (log 16). -/
def Obligations.FramesThatAreNotTaken : Prop :=
  ∀ (rest : List Byte) (s : State),
    (s.part ≠ .reset → s.rejectUnsent = true →
      (∀ k c, (k, c) ∈ knownFrames rest → exec c s = .next { s with waiting := s.waiting ++ [k :: rest] })
      ∧ (∀ sending, exec (.linkReset rest sending) s = .next { s with waiting := s.waiting ++ [kindLinkReset :: rest] })
      ∧ exec (.unknownOrderFrame rest) s = .next { s with waiting := s.waiting ++ [rest] })
    ∧ (s.part = .reset →
      (∀ k c, (k, c) ∈ knownFrames rest → exec c s = .next s) ∧ (∀ sending, exec (.linkReset rest sending) s = .next s)
      ∧ exec (.unknownOrderFrame rest) s = .next s)
    ∧ (s.rejectUnsent = false → s.link ≠ .up → ∀ sending, exec (.linkReset rest sending) s = .next s)

/-- A LINK_RESET taken while the link is UP (R66, R44, R46, R68): no order is held, the report lane is empty; each bank unit keeps in its
lane only a READ or WRITE in progress, its revoked flag is clear, and with none in progress its open row is precharged at the stack port and
it is CLOSED; passover counts, claims, jobs of the refresh unit and the engine, debts, pointers, trackers, queues, records and spares stay. When
some READ or WRITE is in progress the
link is RESETTING with an empty outbound queue; when none is, every unit has reported and the link is UP again with READY and a NEED for
each bank at the urgent level, in ascending order. A message that was being sent is completed (log 17). Nothing else changes. That the
precharges stand at the stack port bank by bank in ascending order is the model's choice (log 7). -/
def Obligations.LinkResetForgetsTheController : Prop :=
  ∀ (rest : List Byte) (sending : Bool) (s : State), s.part ≠ .reset → s.rejectUnsent = false → s.link = .up →
    ∃ t, exec (.linkReset rest sending) s = .next t
      ∧ t = { s with
          link := t.link, held := [], reportLane := [], outbound := t.outbound, banks := t.banks
          stackPort := s.stackPort ++ allBanks.flatMap fun b => match (s.bank b).shadow with
            | .opened _ p => if (s.bank b).burstInProgress then [] else [.precharge b p]
            | .closed | .claimed _ => []
          linkOut := if sending then s.linkOut ++ (s.outbound.take 1).map OutMsg.frame else s.linkOut }
      ∧ (∀ b : Bank, t.bank b = { s.bank b with
          lane := if (s.bank b).burstInProgress then (s.bank b).lane.take 1 else []
          inProgress := if (s.bank b).burstInProgress then (s.bank b).inProgress else none
          shadow := if (s.bank b).isOpen && !(s.bank b).burstInProgress then .closed else (s.bank b).shadow
          revoked := false
          reported := !(s.bank b).burstInProgress
          need := (s.bank b).need || decide (t.link = .up) && decide (s.settings.urgentLevel ≤ (s.bank b).debt) })
      ∧ ((∃ b : Bank, (s.bank b).burstInProgress = true) → t.link = .resetting ∧ t.outbound = [])
      ∧ ((∀ b : Bank, (s.bank b).burstInProgress = false) → t.link = .up
          ∧ t.outbound = .ready :: (allBanks.filter fun b => decide (s.settings.urgentLevel ≤ (s.bank b).debt)).map .need)

/-- A READ or WRITE in progress ends during a link reset (R44, R46, R68): the reply is discarded, the row is precharged, the bank is CLOSED and
has reported. While another unit has not reported the link stays RESETTING and nothing else changes; when every other unit has, the
link becomes UP with READY behind what stands in the outbound queue and, behind it, a NEED for each bank at the urgent level whose NEED
does not stand there, in ascending order. That a READ or WRITE ends by this step is the model's reading (log 9). -/
def Obligations.LinkResetEnds : Prop :=
  ∀ (b : Bank) (body : ReplyBody) (o : LaneOrder) (rest : List LaneOrder) (l : LRow) (p : PRow) (s : State),
    s.link = .resetting → (s.bank b).shadow = .opened l p → (s.bank b).inProgress = some (.burst body) → (s.bank b).lane = o :: rest →
    ((∃ c : Bank, c ≠ b ∧ (s.bank c).reported = false) →
      exec (.orderCompletion b) s = .next ((s.port [.precharge b p]).setBank b
        { s.bank b with shadow := .closed, lane := rest, inProgress := none, reported := true }))
    ∧ ((∀ c : Bank, c ≠ b → (s.bank c).reported = true) → (∀ c : Bank, OutMsg.need c ∉ s.outbound) →
      ∃ t, exec (.orderCompletion b) s = .next t
        ∧ t = { s with
                banks := t.banks, link := .up, stackPort := s.stackPort ++ [.precharge b p],
                outbound := s.outbound ++ .ready :: (allBanks.filter fun c => decide (s.settings.urgentLevel ≤ (s.bank c).debt)).map .need }
        ∧ t.bank b = { s.bank b with
                       shadow := .closed, lane := rest, inProgress := none, reported := true,
                       need := (s.bank b).need || decide (s.settings.urgentLevel ≤ (s.bank b).debt) }
        ∧ ∀ c : Bank, c ≠ b → t.bank c = { s.bank c with need := (s.bank c).need || decide (s.settings.urgentLevel ≤ (s.bank c).debt) })

/-- The message at the head of the outbound queue is sent and removed (R58); a reply to an order frees its tag and slot with it (R56). Then the
frames that wait on the link are taken (R59), each as its own command, a LINK_RESET with no message begun (log 17), in the order sent,
until an intake REJECT is unsent again, behind which the rest still wait; with none that waits nothing else changes. The last clause is
the case of one frame that waits and is accepted (R52, R55). That the frames are taken in the very step of the OUTBOUND_SEND is the model's
choice (log 16). -/
def Obligations.OutboundHeadIsSent : Prop :=
  (∀ (m : OutMsg) (q : List OutMsg) (s : State), s.outbound = m :: q →
    let sent := ({ s with
      outbound := q
      linkOut := s.linkOut ++ [m.frame]
      held := match m with
        | .reply t _ _ => s.held.erase t
        | .intakeReject _ _ | .ready | .need _ | .lost _ => s.held } : State)
    exec .outboundSend s = .next (State.takeWaiting s.waiting sent) ∧ (s.waiting = [] → exec .outboundSend s = .next sent))
  ∧ (∀ t : State,
      State.takeWaiting [] t = { t with waiting := [] }
      ∧ ∀ (f : List Byte) (fs : List (List Byte)),
          (t.rejectUnsent = true → State.takeWaiting (f :: fs) t = { t with waiting := f :: fs })
          ∧ (t.rejectUnsent = false → t.part ≠ .reset →
              ∃ u, exec (.unknownOrderFrame f) t = .next u ∧ State.takeWaiting (f :: fs) t = State.takeWaiting fs u))
  ∧ (∀ (rest : List Byte) (t : State),
      (∀ k c, (k, c) ∈ knownFrames rest → exec (.unknownOrderFrame (k :: rest)) t = exec c t)
      ∧ exec (.unknownOrderFrame (kindLinkReset :: rest)) t = exec (.linkReset rest false) t)
  ∧ ∀ (o : Order) (t : Tag) (r : Reason) (q : List OutMsg) (s : State), s.outbound = .intakeReject t r :: q →
      (∀ t' r', OutMsg.intakeReject t' r' ∉ q) → s.waiting = [orderKind o :: orderRest o] →
      s.link = .up → s.held.length < 32 → orderTag o ∉ s.held →
      exec .outboundSend s = .next (match o with
        | .bank t' b op => { s.setBank b { s.bank b with lane := (s.bank b).lane ++ [⟨t', op⟩] } with
            held := t' :: s.held, outbound := q, linkOut := s.linkOut ++ [(OutMsg.intakeReject t r).frame], waiting := [] }
        | .report t' b r' k => { s with
            held := t' :: s.held, reportLane := s.reportLane ++ [⟨t', b, r', k⟩], outbound := q,
            linkOut := s.linkOut ++ [(OutMsg.intakeReject t r).frame], waiting := [] })

/-! ### Orders at the head of a lane -/

/-- An OPEN or a REFRESH at the head of the lane of an OPEN bank is answered REJECT BANK_OPEN, and the bank stays OPEN on its row (R31,
R35). That the order ends in the same step is the model's reading (log 9). -/
def Obligations.OpenBankRefusesOpenAndRefresh : Prop :=
  ∀ (b : Bank) (o : LaneOrder) (rest : List LaneOrder) (l : LRow) (p : PRow) (c : Instr) (s : State),
    ((∃ r, o.op = .opn r) ∧ c = .headOpen b ∨ o.op = .refresh ∧ c = .headRefresh b) →
    s.link = .up → (s.bank b).lane = o :: rest → (s.bank b).inProgress = none → (s.bank b).shadow = .opened l p →
    (s.bank b).forced = false →
    exec c s = .next { s.setBank b { s.bank b with lane := rest } with
      outbound := s.outbound ++ [.reply o.tag (some b) (.reject .bankOpen)] }

/-- A READ at the head of the lane becomes the order in progress at once, in every shadow state (R32). On an OPEN bank burst c of the
open row is read, unchecked, and DATA with its 72 bytes is handed when it ends; on a bank that is not OPEN it is answered REJECT REVOKED
when the revoked flag is set and REJECT NO_ROW when it is clear, no row is touched and the flag stays. That the READ of an OPEN bank ends
by a step of its own, and the others in this step, is the model's reading (log 9). -/
def Obligations.ReadAtTheHead : Prop :=
  ∀ (b : Bank) (t : Tag) (c : Col) (rest : List LaneOrder) (s : State),
    s.link = .up → (s.bank b).lane = ⟨t, .read c⟩ :: rest → (s.bank b).inProgress = none →
    (∀ l p, (s.bank b).shadow = .opened l p → (s.bank b).forced = false →
      exec (.headRead b) s = .next ((s.port [.readBurst b p c]).setBank b
        { s.bank b with inProgress := some (.burst (.data (s.readBurst b p c))) }))
    ∧ ((s.bank b).isOpen = false →
      exec (.headRead b) s = .next { s.setBank b { s.bank b with lane := rest } with
        outbound := s.outbound ++ [.reply t (some b) (.reject (if (s.bank b).revoked then .revoked else .noRow))] })

/-- A WRITE at the head of the lane (R33, R79). On an OPEN bank its 72 bytes are written as given into burst c of the open row, and the
active migration's mask flag of the column's chunk is set when the write is to its row and, in COPYING, the chunk lies below the cursor;
on a bank that is not OPEN it is rejected as a READ is. Every other burst of the stack reads as before. Which of these end in the same
step is the model's reading (log 9). -/
def Obligations.WriteAtTheHead : Prop :=
  ∀ (b : Bank) (t : Tag) (c : Col) (v : Burst) (rest : List LaneOrder) (s : State),
    s.link = .up → (s.bank b).lane = ⟨t, .write c v⟩ :: rest → (s.bank b).inProgress = none →
    (∀ l p, (s.bank b).shadow = .opened l p → (s.bank b).forced = false → s.stackOk →
      ∃ u, exec (.headWrite b) s = .next u
        ∧ u = { s.setBank b { s.bank b with inProgress := some (.burst .done) } with
            stack := u.stack, stackPort := s.stackPort ++ [.writeBurst b p c],
            active := s.active.map fun a => { a with mask := u.active.elim a.mask (·.mask) } }
        ∧ (∀ a, s.active = some a → ∃ a', u.active = some a' ∧ ∀ k : Chunk, a'.mask.get k =
            (a.mask.get k || decide (a.bank = b ∧ a.row = l ∧ k.val = c.val / 8 ∧ (a.phase = .copying → c.val / 8 < a.cursor))))
        ∧ u.readBurst b p c = v
        ∧ ∀ b' p' c', (b', p', c') ≠ (b, p, c) → u.readBurst b' p' c' = s.readBurst b' p' c')
    ∧ ((s.bank b).isOpen = false →
      exec (.headWrite b) s = .next { s.setBank b { s.bank b with lane := rest } with
        outbound := s.outbound ++ [.reply t (some b) (.reject (if (s.bank b).revoked then .revoked else .noRow))] })

/-- A CLOSE at the head of the lane is served at once, in every shadow state (R34): on an OPEN bank the row is precharged and the bank is
CLOSED; otherwise the revoked flag is cleared, no row is touched and a job goes on; DONE is handed. That it ends in the same step is the
model's reading (log 9). -/
def Obligations.CloseAtTheHead : Prop :=
  ∀ (b : Bank) (t : Tag) (rest : List LaneOrder) (s : State),
    s.link = .up → (s.bank b).lane = ⟨t, .close⟩ :: rest → (s.bank b).inProgress = none →
    (∀ l p, (s.bank b).shadow = .opened l p → (s.bank b).forced = false →
      exec (.headClose b) s = .next { (s.port [.precharge b p]).setBank b { s.bank b with shadow := .closed, lane := rest } with
        outbound := s.outbound ++ [.reply t (some b) .done] })
    ∧ ((s.bank b).isOpen = false →
      exec (.headClose b) s = .next { s.setBank b { s.bank b with revoked := false, lane := rest } with
        outbound := s.outbound ++ [.reply t (some b) .done] })

/-- The READ or WRITE in progress ends: its reply is handed and it leaves the lane (R30); with no forced claim nothing else changes. That
a READ or WRITE of an OPEN bank ends by this step is the model's reading (log 9). -/
def Obligations.OrderCompletionHandsTheReply : Prop :=
  ∀ (b : Bank) (o : LaneOrder) (rest : List LaneOrder) (body : ReplyBody) (s : State),
    s.link = .up → (s.bank b).lane = o :: rest → (s.bank b).inProgress = some (.burst body) → (s.bank b).forced = false →
    exec (.orderCompletion b) s = .next { s.setBank b { s.bank b with lane := rest, inProgress := none } with
      outbound := s.outbound ++ [.reply o.tag (some b) body] }

/-- A forced claim that waited for the order in progress on an OPEN bank is granted by revocation when the order ends (R40, R41, R43): after
the order's reply the row is precharged, the revoked flag is set, LOST is handed (unless merged, R65) and ROW_REVOKED raised, and the bank is
CLAIMED by a FORCED job that begins the slot of the pointer; a waiting migration claim and the passover count stay. That the order ends by this
step is the model's reading (log 9), and that the revocation comes before a CLOSE that waits behind the order is its choice against the last
paragraph of 02 section 2.10 (log 31). -/
def Obligations.RevocationFollowsTheOrder : Prop :=
  ∀ (b : Bank) (o : LaneOrder) (rest : List LaneOrder) (body : ReplyBody) (l : LRow) (p : PRow) (s : State),
    s.link = .up → (s.bank b).lane = o :: rest → (s.bank b).inProgress = some (.burst body) → (s.bank b).shadow = .opened l p →
    (s.bank b).forced = true →
    exec (.orderCompletion b) s = .next
      (({ (s.port [.precharge b p]).setBank b { s.bank b with
            lane := rest, inProgress := none, shadow := .claimed .forced, revoked := true, forced := false, claimNew := false,
            slot := some (s.bank b).pointer } with
          outbound := s.outbound ++ [.reply o.tag (some b) body, .lost b] } : State).raise .rowRevoked (some b) (some l) (.phys p))

/-! ### The arbiter -/

/-- What waits: an OPEN or REFRESH at the head of the lane of a bank that is not OPEN waits for the arbiter (R31, R35); on an OPEN bank with
a forced claim no order is begun (R41); and the arbiter makes no choice on a bank that is not CLOSED, has an order in progress, or has no
candidate (R37). Nothing changes. That a command whose event cannot take place in the state changes nothing is the model's choice (log
1). -/
def Obligations.WhatWaitsChangesNothing : Prop :=
  ∀ (b : Bank) (s : State),
    ((s.bank b).isOpen = false → exec (.headOpen b) s = .next s ∧ exec (.headRefresh b) s = .next s)
    ∧ ((s.bank b).isOpen = true → (s.bank b).forced = true →
        ∀ c ∈ [Instr.headOpen b, .headRead b, .headWrite b, .headClose b, .headRefresh b], exec c s = .next s)
    ∧ ((s.bank b).shadow ≠ .closed ∨ (s.bank b).inProgress ≠ none
        ∨ (s.bank b).forced = false ∧ (s.bank b).migClaim = none ∧ (s.bank b).laneAsks = false →
      ∀ early, exec (.bankArbiterChoice b early) s = .next s)

/-- The forced claim is chosen whatever else waits (R38): the claim is removed, the passover count stays, and a FORCED job begins the slot of
the pointer (R36, R116). -/
def Obligations.ForcedClaimIsChosenFirst : Prop :=
  ∀ (b : Bank) (early : Bool) (s : State),
    (s.bank b).shadow = .closed → (s.bank b).inProgress = none → (s.bank b).forced = true →
    exec (.bankArbiterChoice b early) s = .next (s.setBank b { s.bank b with
      forced := false, shadow := .claimed .forced, claimNew := false, slot := some (s.bank b).pointer })

/-- A REFRESH at the head is chosen when there is no forced claim and no migration claim at or above the passover limit (R38, R35, R117): it
becomes the order in progress and a SWEEP job begins the slot of the pointer; the passover count rises by 1 when a migration claim is
passed over. The operand `early`, which says that a claim placed at the job end before is not yet present, is the model's choice (log 10). -/
def Obligations.RefreshIsGranted : Prop :=
  ∀ (b : Bank) (t : Tag) (rest : List LaneOrder) (early : Bool) (s : State),
    (s.bank b).shadow = .closed → (s.bank b).inProgress = none → (s.bank b).forced = false → (s.bank b).lane = ⟨t, .refresh⟩ :: rest →
    let waits := (s.bank b).migClaim.isSome && !(early && (s.bank b).claimNew)
    (waits = true → (s.bank b).passover < s.settings.passoverLimit) →
    exec (.bankArbiterChoice b early) s = .next (s.setBank b { s.bank b with
      shadow := .claimed .sweep, inProgress := some .sweeping, slot := some (s.bank b).pointer, claimNew := false,
      passover := if waits then (s.bank b).passover + 1 else (s.bank b).passover })

/-- An OPEN at the head is chosen under the same conditions and served to its end (R31, R38): the revoked flag is cleared, the steering
table gives the physical row (R6), the row is activated and the activation counted by the tracker (R92), with TARGET_OVERFLOW when the
offer it makes is refused (R96, R99), the bank is OPEN on both rows, and DONE is handed. That the choice and the service are one step is
the model's reading (log 11), and the operand `early`, a claim not yet present, its choice (log 10). -/
def Obligations.OpenIsServed : Prop :=
  ∀ (b : Bank) (t : Tag) (r : LRow) (rest : List LaneOrder) (early : Bool) (s : State),
    s.link = .up → (s.bank b).shadow = .closed → (s.bank b).inProgress = none → (s.bank b).forced = false →
    (s.bank b).lane = ⟨t, .opn r⟩ :: rest →
    let waits := (s.bank b).migClaim.isSome && !(early && (s.bank b).claimNew)
    (waits = true → (s.bank b).passover < s.settings.passoverLimit) →
    let p := (s.bank b).lookupRow r
    let y := (s.bank b).counted s.settings.threshold p
    let u : State := { (s.port [.activate b p]).setBank b { s.bank b with
        shadow := .opened r p, revoked := false, lane := rest, claimNew := false, tracker := y.tracker, targets := y.targets,
        passover := if waits then (s.bank b).passover + 1 else (s.bank b).passover } with
      outbound := s.outbound ++ [.reply t (some b) .done] }
    exec (.bankArbiterChoice b early) s = .next
      (if offers (s.bank b).tracker s.settings.threshold p && decide (offerOf (s.bank b).targets p = .refused) then
        u.raise .targetOverflow (some b) none (.phys p) else u)

/-- The physical row that an OPEN of logical row r is given (R6, Table 1-4), in a table without two records of one row: r itself with no
record, and with a MIGRATING record without from-spare; the from-spare's row with a MIGRATING record that has one; and the row of the
record's own spare with a STEERED, SEALING, SEALED or RETURNING record. A lookup changes nothing: it gives a row alone. -/
def Obligations.LookupFollowsTheRecord : Prop :=
  ∀ (x : BankState) (r : LRow), x.tableOk →
    (x.noRecord r → x.lookupRow r = ownRow r)
    ∧ ∀ d e, x.records.get d = some e → e.row = r →
        (e.state = .migrating none → x.lookupRow r = ownRow r)
        ∧ (∀ f o, e.state = .migrating (some (f, o)) → x.lookupRow r = spareRow f)
        ∧ ((e.state = .steered ∨ e.state = .returning ∨ (∃ n, e.state = .sealing n) ∨ ∃ n, e.state = .fused n) →
            x.lookupRow r = spareRow d)

/-- A migration claim is chosen when it is at the passover limit or no OPEN or REFRESH waits (R38); it is removed and the passover count
returns to 0; a COPY or FINAL job then holds the bank (R36), and a COPY grant of a recopy pass clears the flag of the lowest flagged
chunk above the pass position and sets the position to it (R80). The operand of the choice says that the claim is found (log 10). -/
def Obligations.MigrationClaimIsGranted : Prop :=
  ∀ (b : Bank) (a : Active) (s : State),
    (s.bank b).shadow = .closed → (s.bank b).inProgress = none → (s.bank b).forced = false → s.active = some a → a.bank = b →
    (s.settings.passoverLimit ≤ (s.bank b).passover ∨ (s.bank b).laneAsks = false) →
    ((s.bank b).migClaim = some .copy → a.phase = .copying →
      exec (.bankArbiterChoice b false) s = .next (s.setBank b { s.bank b with
        shadow := .claimed .copy, migClaim := none, claimNew := false, passover := 0 }))
    ∧ ((s.bank b).migClaim = some .copy → a.phase = .recopying → ∀ k : Chunk, a.mask.get k = true →
      (∀ j, a.passPos = some j → j < k) → (∀ i : Chunk, i < k → a.mask.get i = true → ∃ j, a.passPos = some j ∧ i ≤ j) →
      exec (.bankArbiterChoice b false) s = .next { s.setBank b { s.bank b with
          shadow := .claimed .copy, migClaim := none, claimNew := false, passover := 0 } with
        active := some { a with mask := a.mask.set k.val false k.isLt, passPos := some k } })
    ∧ ((s.bank b).migClaim = some .final →
      exec (.bankArbiterChoice b false) s = .next (s.setBank b { s.bank b with
        shadow := .claimed .final, migClaim := none, claimNew := false, passover := 0 }))

/-- A SWITCH claim granted with an empty mask (R82, R84). A record in MIGRATING becomes STEERED on its spare, a from-spare becomes FREE
or, retired, BAD and not void-sealed, and MIGRATION_DONE is raised (R21); a RETURNING record is removed, its spare becomes FREE, and
RETURN_DONE is raised (R22); each with the record's poison count. The bank is CLOSED and the engine is IDLE, and so takes the job at the head
of the migration queue (R71), as JobJoinsTheQueue says of `State.takeJob`; with no job pending nothing else changes. That the SWITCH job
ends in the step of the choice is the model's reading (log 12). -/
def Obligations.SwitchIsTaken : Prop :=
  ∀ (b : Bank) (a : Active) (d : Spare) (e : Rec) (s : State),
    (s.bank b).shadow = .closed → (s.bank b).inProgress = none → (s.bank b).forced = false → s.active = some a → a.bank = b →
    (s.settings.passoverLimit ≤ (s.bank b).passover ∨ (s.bank b).laneAsks = false) → (s.bank b).migClaim = some .switch →
    (∀ k : Chunk, a.mask.get k = false) → (s.bank b).tableOk →
    (s.bank b).records.get d = some e → e.row = a.row →
    (∀ old, a.kind = .move → e.state = .migrating old → exec (.bankArbiterChoice b false) s = .next
      (({ s.setBank b { s.bank b with
            migClaim := none, claimNew := false, passover := 0
            records := (s.bank b).records.set d.val (some { e with state := .steered }) d.isLt
            spares := match old with
              | none => (s.bank b).spares
              | some (f, retire) => (s.bank b).spares.set f.val (if retire then .bad false else .free) f.isLt } with
          active := none } : State).raise .migrationDone (some b) (some a.row) (.poison e.poison)).takeJob)
    ∧ (a.kind = .ret → e.state = .returning → exec (.bankArbiterChoice b false) s = .next
      (({ s.setBank b { s.bank b with
            migClaim := none, claimNew := false, passover := 0
            records := (s.bank b).records.set d.val none d.isLt
            spares := (s.bank b).spares.set d.val .free d.isLt } with
          active := none } : State).raise .returnDone (some b) (some a.row) (.poison e.poison)).takeJob)

/-- A SWITCH claim granted with a flag set (R82): no switch is taken, the bank is CLOSED again, and the engine places a FINAL claim when
abort-pending is set or the passes done have reached the recopy limit, else a COPY claim of a new recopy pass. That the SWITCH job ends
in the step of the choice is the model's reading (log 12). -/
def Obligations.FailedMaskCheck : Prop :=
  ∀ (b : Bank) (a : Active) (s : State),
    (s.bank b).shadow = .closed → (s.bank b).inProgress = none → (s.bank b).forced = false → s.active = some a → a.bank = b →
    (s.settings.passoverLimit ≤ (s.bank b).passover ∨ (s.bank b).laneAsks = false) → (s.bank b).migClaim = some .switch →
    (∃ k : Chunk, a.mask.get k = true) →
    exec (.bankArbiterChoice b false) s = .next
      (if a.abort = true ∨ s.settings.recopyLimit ≤ a.passesDone then
        { s.setBank b { s.bank b with migClaim := some .final, claimNew := true, passover := 0 } with
          active := some { a with phase := .final } }
      else
        { s.setBank b { s.bank b with migClaim := some .copy, claimNew := true, passover := 0 } with
          active := some { a with phase := .recopying, passPos := none } })

/-! ### Migration jobs -/

/-- A chunk job ends (R75, R76, R77, R20, R92). Its row operations stand at the stack port in the order of R75; the eight bursts of its chunk,
as the check of the source's bursts gives them, are in the destination, and every other burst of the stack reads as before; the tracker and
target queue of the bank, with TARGET_OVERFLOW, are as the activation of the source row and then of the destination row leaves them; the
bank is CLOSED; with abort-pending clear the record's poison count has risen by the bursts written with the poison pattern, up to 64, and
`State.chunkCounts` counts the chunk's corrected and its uncorrectable bursts. Every other bank keeps all but its migration claim, and this
bank all but these, its records and spares; of the other notices only MIGRATION_ABORTED changes; and beside the engine, its queue and the
chunk buffer nothing else changes. That the row operations of the job are done at its end is the model's reading (log 12). -/
def Obligations.ChunkJobCopiesItsChunk : Prop :=
  ∀ (a : Active) (k : Chunk) (cols : List Col) (s : State), s.stackOk → s.active = some a → (s.bank a.bank).shadow = .claimed .copy →
    a.chunk = some k → cols.map Fin.val = (List.range 8).map (fun i => 8 * k.val + i) →
    let check := fun (c : Col) => checkBurst (s.readBurst a.bank a.source c)
    let tracked := afterActivation s.settings.threshold a.bank a.dest
      (afterActivation s.settings.threshold a.bank a.source (s.bank a.bank, s.notice .targetOverflow))
    a.chunkOps k = .activate a.bank a.source :: (cols.map (.readBurst a.bank a.source) ++ .precharge a.bank a.source
        :: .activate a.bank a.dest :: (cols.map (.writeBurst a.bank a.dest) ++ [.precharge a.bank a.dest]))
    ∧ s.chunkCounts a k = (cols.countP fun c => match check c with
          | .words _ corrected => corrected
          | .uncorrectable => false,
        cols.countP fun c => decide (check c = .uncorrectable))
    ∧ ∃ t, exec .chunkJobEnd s = .next t
      ∧ t.stackPort = s.stackPort ++ a.chunkOps k
      ∧ (∀ c ∈ cols, t.readBurst a.bank a.dest c =
          match check c with
          | .words d _ => Vector.ofFn fun j => { data := d.get j, check := checkByte (d.get j) }
          | .uncorrectable => Vector.replicate 8 poisonWord)
      ∧ (∀ b p c, ¬ (b = a.bank ∧ p = a.dest ∧ c.val / 8 = k.val) → t.readBurst b p c = s.readBurst b p c)
      ∧ (t.bank a.bank).tracker = tracked.1.tracker ∧ (t.bank a.bank).targets = tracked.1.targets ∧ t.notice .targetOverflow = tracked.2
      ∧ (a.abort = false → (s.bank a.bank).tableOk → ∀ d e, (s.bank a.bank).records.get d = some e → e.row = a.row →
          (t.bank a.bank).records.get d = some { e with poison := min 64 (e.poison + (s.chunkCounts a k).2) })
      ∧ (∀ b, t.bank b = { s.bank b with
          shadow := if b = a.bank then .closed else (s.bank b).shadow
          migClaim := (t.bank b).migClaim, claimNew := (t.bank b).claimNew, passover := (t.bank b).passover
          tracker := (t.bank b).tracker, targets := (t.bank b).targets, records := (t.bank b).records, spares := (t.bank b).spares })
      ∧ (∀ b, b ≠ a.bank → (t.bank b).records = (s.bank b).records ∧ (t.bank b).spares = (s.bank b).spares
          ∧ (t.bank b).tracker = (s.bank b).tracker ∧ (t.bank b).targets = (s.bank b).targets ∧ (t.bank b).passover = (s.bank b).passover)
      ∧ (∀ n : NoticeKind, n ≠ .targetOverflow → n ≠ .migrationAborted → t.notice n = s.notice n)
      ∧ t = { s with
              banks := t.banks, stack := t.stack, stackPort := t.stackPort, buffer := t.buffer, active := t.active,
              migQueue := t.migQueue, notices := t.notices, alert := t.alert }

/-- What follows a chunk job with abort-pending clear (R78, R80, R81): in COPYING the cursor rises and the next COPY claim is placed until the
cursor is 8; in RECOPYING the next COPY claim is placed while a flagged chunk lies above the pass position, and otherwise the passes done
rise; at the end of a pass the engine enters SWITCHING with an empty mask, a new recopy pass below the recopy limit, and FINAL otherwise.
That the counts of R77 change in the step that ends the job is the model's reading (log 12). -/
def Obligations.EngineAfterAChunkJob : Prop :=
  ∀ (a : Active) (k : Chunk) (s : State), s.active = some a → (s.bank a.bank).shadow = .claimed .copy → a.chunk = some k → a.abort = false →
    ∃ t a', exec .chunkJobEnd s = .next t ∧ t.active = some a' ∧ (t.bank a.bank).migClaim = some a'.phase.claim
      ∧ a' = { a with
          phase := a'.phase, cursor := if a.phase = .copying then a.cursor + 1 else a.cursor, passPos := a'.passPos
          passesDone := if a.phase = .recopying ∧ a.nextFlagged = none then a.passesDone + 1 else a.passesDone
          corrected := min 255 (a.corrected + (s.chunkCounts a k).1), poisoned := min 255 (a.poisoned + (s.chunkCounts a k).2) }
      ∧ (if a.phase = .copying ∧ a.cursor + 1 < 8 then a'.phase = .copying ∧ a'.passPos = a.passPos
        else if a.phase = .recopying ∧ a.nextFlagged ≠ none then a'.phase = .recopying ∧ a'.passPos = a.passPos
        else if (∀ j : Chunk, a.mask.get j = false) then a'.phase = .switching ∧ a'.passPos = a.passPos
        else if a'.passesDone < s.settings.recopyLimit then a'.phase = .recopying ∧ a'.passPos = none
        else a'.phase = .final ∧ a'.passPos = a.passPos)

/-- A chunk job that ends with abort-pending set (R85, R86, R23, R20): no claim is placed, the record falls back to its from-spare, its poison
count raised by the bursts the job wrote with the poison pattern, or is removed, its spare becomes FREE, MIGRATION_ABORTED is raised with the
freed spare as detail, and the engine is IDLE, and so takes the job at the head of the migration queue (R71), as JobJoinsTheQueue says of
`State.takeJob`. That the counts of the chunk take effect in the step that ends the job is the model's reading (log 12). -/
def Obligations.AbortAfterAChunkJob : Prop :=
  ∀ (a : Active) (k : Chunk) (d : Spare) (e : Rec) (old : Option (Spare × Bool)) (s : State),
    s.active = some a → (s.bank a.bank).shadow = .claimed .copy → a.chunk = some k → a.abort = true →
    (s.bank a.bank).migClaim = none → (s.bank a.bank).tableOk →
    (s.bank a.bank).records.get d = some e → e.row = a.row → e.state = .migrating old →
    ∃ u : State, exec .chunkJobEnd s = .next u.takeJob ∧ u.active = none ∧ u.migQueue = s.migQueue
      ∧ (u.bank a.bank).migClaim = none ∧ (∀ b, b ≠ a.bank → u.bank b = s.bank b)
      ∧ (u.bank a.bank).spares = (s.bank a.bank).spares.set d.val .free d.isLt
      ∧ (u.bank a.bank).records =
          (match old with
          | none => (s.bank a.bank).records.set d.val none d.isLt
          | some (f, _) => ((s.bank a.bank).records.set d.val none d.isLt).set f.val
              (some { e with state := .steered, poison := min 64 (e.poison + (s.chunkCounts a k).2) }) f.isLt)
      ∧ u.notice .migrationAborted = {
          pending := true, count := min 255 ((s.notice .migrationAborted).count + 1), bank := some a.bank, row := some a.row
          detail := some (.spare d), masked := (s.notice .migrationAborted).masked }

/-- A FINAL job ends (R83, R84, R20, R21, R22, R92). Every chunk flagged at the grant, in ascending order, has been copied as a chunk job
copies it: its row operations stand at the stack port, each burst of the destination is as the check of the source's burst gives it, the
tracker and target queue, with TARGET_OVERFLOW, are as the two activations of each chunk leave them, and the record's poison count has
risen, up to 64. Every burst outside the flagged chunks of the destination row reads as before. Then the switch is taken: a record in MIGRATING
becomes STEERED, its from-spare FREE or, retired, BAD, with MIGRATION_DONE; a RETURNING record is removed and its spare becomes FREE, with
RETURN_DONE; the bank is CLOSED and the engine is IDLE, and so takes the job at the head of the migration queue (R71), as JobJoinsTheQueue
says of `State.takeJob`. Every other bank stays, and beside the chunk buffer nothing else changes. That the row operations of the job are
done at its end is the model's reading (log 12). -/
def Obligations.FinalJobCopiesAndSwitches : Prop :=
  ∀ (a : Active) (s : State), s.stackOk → s.active = some a → (s.bank a.bank).shadow = .claimed .final → a.source ≠ a.dest →
    let x := s.bank a.bank
    let flagged := (List.finRange 8).filter fun k : Chunk => a.mask.get k
    let tracked := flagged.foldl (fun y _ => afterActivation s.settings.threshold a.bank a.dest
      (afterActivation s.settings.threshold a.bank a.source y)) (x, s.notice .targetOverflow)
    let raised := fun (n : NoticeKind) (poison : Nat) => ({
      pending := true, count := min 255 ((s.notice n).count + 1), bank := some a.bank, row := some a.row
      detail := some (.poison poison), masked := (s.notice n).masked } : NoticeEntry)
    ∃ u : State, exec .finalJobEnd s = .next u.takeJob ∧ u.active = none ∧ u.migQueue = s.migQueue
      ∧ u.stackPort = s.stackPort ++ flagged.flatMap a.chunkOps
      ∧ (∀ c : Col, a.mask.get (chunkOf c) = true → u.readBurst a.bank a.dest c =
          match checkBurst (s.readBurst a.bank a.source c) with
          | .words d _ => Vector.ofFn fun j => { data := d.get j, check := checkByte (d.get j) }
          | .uncorrectable => Vector.replicate 8 poisonWord)
      ∧ (∀ b p c, ¬ (b = a.bank ∧ p = a.dest ∧ a.mask.get (chunkOf c) = true) → u.readBurst b p c = s.readBurst b p c)
      ∧ (x.tableOk → ∀ d e, x.records.get d = some e → e.row = a.row →
          let poison := flagged.foldl (fun n k => min 64 (n + (s.chunkCounts a k).2)) e.poison
          (∀ old, a.kind = .move → e.state = .migrating old →
            (u.bank a.bank).records = x.records.set d.val (some { e with state := .steered, poison := poison }) d.isLt
            ∧ (u.bank a.bank).spares = (match old with
                | none => x.spares
                | some (f, retire) => x.spares.set f.val (if retire then .bad false else .free) f.isLt)
            ∧ u.notice .migrationDone = raised .migrationDone poison ∧ u.notice .returnDone = s.notice .returnDone)
          ∧ (a.kind = .ret → e.state = .returning →
            (u.bank a.bank).records = x.records.set d.val none d.isLt ∧ (u.bank a.bank).spares = x.spares.set d.val .free d.isLt
            ∧ u.notice .returnDone = raised .returnDone poison ∧ u.notice .migrationDone = s.notice .migrationDone))
      ∧ u.bank a.bank = { x with
          shadow := .closed, tracker := tracked.1.tracker, targets := tracked.1.targets
          records := (u.bank a.bank).records, spares := (u.bank a.bank).spares }
      ∧ (∀ b, b ≠ a.bank → u.bank b = s.bank b)
      ∧ u.notice .targetOverflow = tracked.2
      ∧ (∀ n : NoticeKind, n ≠ .targetOverflow → n ≠ .migrationDone → n ≠ .returnDone → u.notice n = s.notice n)
      ∧ u = { s with
              banks := u.banks, stack := u.stack, stackPort := u.stackPort, buffer := u.buffer, active := none,
              notices := u.notices, alert := u.alert }

/-! ### The refresh unit -/

/-- A tick (R111 to R115, R40, R43, R65). Every bank's debt below 12 rises by 1; a debt of 12 stays, with REFRESH_MISSED for it, the bank as
subject and its shadow state as detail. NEED is raised, and handed while the link is UP and no NEED of the bank stands unsent, where the debt
is then at or above the urgent level and it was not raised. A debt that rises to 12 places a forced claim unless one stands or a FORCED job
holds the bank; on an OPEN bank with no order in progress it is granted at once by revocation: the row is precharged, the revoked flag set,
ROW_REVOKED raised with both rows, LOST handed while the link is UP unless merged, and a FORCED job begins the slot of the pointer. On a
CLOSED bank, where R40 and R115 grant the claim at once, the model leaves it to the bank's next BANK_ARBITER_CHOICE, which is its choice (log
10). The timer begins its next period. Nothing else changes. That an intake REJECT of an order for the bank is no reply of the bank behind
which a further LOST is placed is the model's reading of R65 (log 30). The order in which the tick reaches the banks is an operand, which is the
model's choice (log 14). -/
def Obligations.TickRaisesEveryDebt : Prop :=
  ∀ (first : List Bank) (s : State), s.timer ≠ none →
    let order := first.dedup ++ allBanks.filter fun b => b ∉ first
    let missed := fun (b : Bank) => 12 ≤ (s.bank b).debt
    let named := fun (b : Bank) => (s.bank b).debt < 12 ∧ (s.bank b).need = false ∧ s.settings.urgentLevel ≤ (s.bank b).debt + 1
    let revoked := fun (b : Bank) => (s.bank b).debt = 11 ∧ (s.bank b).forced = false ∧ (s.bank b).isOpen = true ∧ (s.bank b).inProgress = none
    ∃ t, exec (.tick first) s = .next t
      ∧ t = { s with
          timer := some s.settings.tickInterval, banks := t.banks, outbound := t.outbound, notices := t.notices, alert := t.alert,
          stackPort := t.stackPort }
      ∧ (∀ b : Bank, missed b → t.bank b = s.bank b)
      ∧ (∀ b : Bank, (s.bank b).debt < 12 →
          let x := s.bank b
          t.bank b =
            if revoked b then
              { x with
                debt := 12, need := x.need || decide (s.settings.urgentLevel ≤ 12), forced := false, revoked := true
                shadow := .claimed .forced, claimNew := false, slot := some x.pointer }
            else
              { x with
                debt := x.debt + 1, need := x.need || decide (s.settings.urgentLevel ≤ x.debt + 1)
                forced := x.forced || decide (x.debt = 11 ∧ x.shadow ≠ .claimed .forced) })
      ∧ (∀ l b l', order = l ++ b :: l' → missed b → (∀ c ∈ l', ¬ missed c) → t.notice .refreshMissed = {
          pending := true, count := min 255 ((s.notice .refreshMissed).count + allBanks.countP fun c => decide (missed c))
          bank := some b, row := none, detail := some (.shadow (s.bank b).shadow), masked := (s.notice .refreshMissed).masked })
      ∧ ((∀ b, ¬ missed b) → t.notice .refreshMissed = s.notice .refreshMissed)
      ∧ (∀ l b l' r p, order = l ++ b :: l' → revoked b → (∀ c ∈ l', ¬ revoked c) → (s.bank b).shadow = .opened r p →
          t.notice .rowRevoked = {
            pending := true, count := min 255 ((s.notice .rowRevoked).count + allBanks.countP fun c => decide (revoked c))
            bank := some b, row := some r, detail := some (.phys p), masked := (s.notice .rowRevoked).masked })
      ∧ ((∀ b, ¬ revoked b) → t.notice .rowRevoked = s.notice .rowRevoked)
      ∧ (∀ n : NoticeKind, n ≠ .refreshMissed → n ≠ .rowRevoked → t.notice n = s.notice n)
      ∧ t.stackPort = s.stackPort ++ order.flatMap (fun b => match (s.bank b).shadow with
          | .opened _ p => if revoked b then [.precharge b p] else []
          | .closed | .claimed _ => [])
      ∧ ∃ l, t.outbound = s.outbound ++ l ∧ l.Nodup ∧ (∀ m ∈ l, ∃ b, m = .need b ∨ m = .lost b)
          ∧ (∀ b : Bank, .need b ∈ l ↔ s.link = .up ∧ named b ∧ .need b ∉ s.outbound)
          ∧ ∀ b : Bank, .lost b ∈ l ↔ s.link = .up ∧ revoked b
              ∧ ¬ ∃ q q', s.outbound = q ++ .lost b :: q' ∧ ∀ g body, OutMsg.reply g (some b) body ∉ q'

/-- A sweep slot completes (R109, R110, R103): its eight rows have been refreshed in ascending order, 8k to 8k+7, for slot 4096 the spare
strip, and every row of the bank lies in exactly one slot; the slot in progress becomes none, the pointer
advances or wraps to 0 with the tracker cleared, a debt above 0 falls by 1, and NEED is cleared when the debt fell below the urgent
level. Target service follows (R101): with an aggressor to service it begins with the head of the target queue; with none, or with
targets per refresh 0, it ends at once, a SWEEP job ends with the DONE of its REFRESH, or with no reply when a link reset discarded the
order (R117), and a FORCED job ends below the urgent level and otherwise begins the next slot (R116). That the first aggressor is taken
in this step, and that a service with nothing to do ends in it, is the model's reading (log 13). -/
def Obligations.SlotCompletes : Prop :=
  (∀ k, k ≤ 4096 → (slotRows k).map Fin.val = (List.range 8).map fun i => 8 * k + i)
  ∧ (slotRows 4096).map Fin.val = [32768, 32769, 32770, 32771, 32772, 32773, 32774, 32775]
  ∧ (∀ p : PRow, ∃! k : Nat, k ≤ 4096 ∧ p ∈ slotRows k)
  ∧ ∀ (b : Bank) (k : Nat) (s : State), (s.bank b).slot = some k →
    let x := s.bank b
    let y : BankState := { x with
      slot := none
      pointer := if k = 4096 then 0 else k + 1
      tracker := if k = 4096 then Vector.replicate 6 none else x.tracker
      debt := if 0 < x.debt then x.debt - 1 else 0
      need := if 0 < x.debt ∧ x.debt - 1 < s.settings.urgentLevel then false else x.need }
    let s' := s.port ((slotRows k).map (.refreshRow b))
    (∀ p q, x.targets = p :: q → 0 < s.settings.targetsPerRef → exec (.slotCompletion b) s = .next (s'.setBank b
        { y with service := some { left := s.settings.targetsPerRef - 1, current := some (p, s.settings.reach) }, targets := q }))
    ∧ (x.targets = [] ∨ s.settings.targetsPerRef = 0 →
        (∀ o rest, x.shadow = .claimed .sweep → x.inProgress = some .sweeping → x.lane = o :: rest → s.link = .up →
          exec (.slotCompletion b) s = .next { s'.setBank b { y with shadow := .closed, service := none, inProgress := none, lane := rest } with
            outbound := s.outbound ++ [.reply o.tag (some b) .done] })
        ∧ (x.shadow = .claimed .sweep → x.inProgress = none →
          exec (.slotCompletion b) s = .next (s'.setBank b { y with shadow := .closed, service := none }))
        ∧ (x.shadow = .claimed .forced → exec (.slotCompletion b) s = .next (s'.setBank b
            (if y.debt < s.settings.urgentLevel then { y with shadow := .closed, service := none }
              else { y with slot := some y.pointer, service := none }))))

/-- Target service (R101). When the neighbours of the aggressor being serviced have been refreshed, the next leaves the head of the queue
with the reach in force, while the service may take one. Run to its end, the service refreshes the neighbours of the aggressor being
serviced and of those it may still take, in queue order, and none when the last has been serviced before; then a SWEEP job hands the DONE of
its REFRESH and the bank is CLOSED (R117), and a FORCED job ends below the urgent level and otherwise begins the next slot (R116). The
neighbours of a row are refreshed in ascending order. Which step takes an aggressor is the model's
reading (log 13). -/
def Obligations.TargetServiceRuns : Prop :=
  (∀ (reach : Nat) (p : PRow), reach = 1 ∨ reach = 2 → (neighbours reach p).Pairwise (· < ·))
  ∧ ∀ (b : Bank) (n : Nat) (current : Option (PRow × Nat)) (s : State), (s.bank b).service = some { left := n, current := current } →
    let x := s.bank b
    let rows := fun (r : Nat) (q : PRow) => (neighbours r q).map (StackOp.refreshRow b)
    (∀ p reach, current = some (p, reach) →
        (∀ q qs, x.targets = q :: qs → 0 < n → exec (.aggressorServiced b) s = .next ((s.port (rows reach p)).setBank b
          { x with service := some { left := n - 1, current := some (q, s.settings.reach) }, targets := qs }))
        ∧ (x.targets = [] ∨ n = 0 → exec (.aggressorServiced b) s = .next ((s.port (rows reach p)).setBank b
          { x with service := some { left := n, current := none } })))
    ∧ (current = none → exec (.aggressorServiced b) s = .next s)
    ∧ (let s' := match current with
          | some (p, reach) => s.port (rows reach p ++ (x.targets.take n).flatMap (rows s.settings.reach))
          | none => s
        let y : BankState := { x with service := none, targets := if current = none then x.targets else x.targets.drop n }
        (∀ o rest, x.shadow = .claimed .sweep → x.inProgress = some .sweeping → x.lane = o :: rest → s.link = .up →
          exec (.targetServiceEnd b) s = .next { s'.setBank b { y with shadow := .closed, inProgress := none, lane := rest } with
            outbound := s.outbound ++ [.reply o.tag (some b) .done] })
        ∧ (x.shadow = .claimed .sweep → x.inProgress = none → exec (.targetServiceEnd b) s = .next (s'.setBank b { y with shadow := .closed }))
        ∧ (x.shadow = .claimed .forced → exec (.targetServiceEnd b) s = .next (s'.setBank b
            (if x.debt < s.settings.urgentLevel then { y with shadow := .closed } else { y with slot := some x.pointer }))))

/-! ### The tracker -/

/-- The neighbours of a physical row (R100) are the rows p−1 and p+1, and also p−2 and p+2 when the reach is 2, that lie in the strip of p; at the
edges of the strips they are those of Table 5-3, and for every other row two rows at reach 1 and four at reach 2. -/
def Obligations.RowsThatAreRefreshed : Prop :=
  (∀ (reach : Nat) (p q : PRow), reach = 1 ∨ reach = 2 → (q ∈ neighbours reach p ↔
      (q.val + 1 = p.val ∨ q.val = p.val + 1 ∨ reach = 2 ∧ (q.val + 2 = p.val ∨ q.val = p.val + 2)) ∧ (q.val < 32768 ↔ p.val < 32768)))
    ∧ neighbours 1 0 = [1] ∧ neighbours 2 0 = [1, 2]
    ∧ neighbours 1 1 = [0, 2] ∧ neighbours 2 1 = [0, 2, 3]
    ∧ neighbours 1 32766 = [32765, 32767] ∧ neighbours 2 32766 = [32764, 32765, 32767]
    ∧ neighbours 1 32767 = [32766] ∧ neighbours 2 32767 = [32765, 32766]
    ∧ neighbours 1 32768 = [32769] ∧ neighbours 2 32768 = [32769, 32770]
    ∧ neighbours 1 32769 = [32768, 32770] ∧ neighbours 2 32769 = [32768, 32770, 32771]
    ∧ neighbours 1 32774 = [32773, 32775] ∧ neighbours 2 32774 = [32772, 32773, 32775]
    ∧ neighbours 1 32775 = [32774] ∧ neighbours 2 32775 = [32773, 32774]
    ∧ ∀ p : PRow, 2 ≤ p.val → p.val < 32766 ∨ 32770 ≤ p.val → p.val < 32774 →
        (neighbours 1 p).length = 2 ∧ (neighbours 2 p).length = 4

/-- An activation of p at a tracker (R93 to R96). An entry of p counts up to the threshold T; without one p is inserted in the lowest empty slot
with count 1, or, with none empty, takes the place of the smallest count, the lowest slot among equals, with that count plus 1 held to T.
At T, but for an insertion, p is offered: already queued or accepted, the count returns to 0; refused, it stays at T, and TARGET_OVERFLOW is
raised (R99). A count one below T is offered at its next activation as R93 says, though the second effect listed under R104 would have no offer
where T was raised by 1 above a count held by a full queue: the model follows R93 (log 32). -/
def Obligations.TrackerCountsAnActivation : Prop :=
  (∀ (T : Nat) (p : PRow) (x : BankState), 64 ≤ T → x.trackerOk →
    let put := fun (i : Fin 6) (n : Nat) => ({ x with tracker := x.tracker.set i.val (some { row := p, count := n }) i.isLt } : BankState)
    let counted := fun (i : Fin 6) (n : Nat) =>
      if n < T then put i n
      else if p ∈ x.targets then put i 0
      else if x.targets.length < 4 then { put i 0 with targets := x.targets ++ [p] }
      else put i T
    (∀ i n, x.tracker.get i = some { row := p, count := n } → x.counted T p = counted i (n + 1))
    ∧ ((∀ i e, x.tracker.get i = some e → e.row ≠ p) →
        (∀ i, x.tracker.get i = none → (∀ j, j < i → x.tracker.get j ≠ none) → x.counted T p = put i 1)
        ∧ ∀ i e, x.tracker.get i = some e → (∀ j, ∃ f, x.tracker.get j = some f ∧ e.count ≤ f.count ∧ (j < i → e.count < f.count)) →
            x.counted T p = counted i (e.count + 1)))
  ∧ ∀ (b : Bank) (p : PRow) (s : State), 64 ≤ s.settings.threshold → (s.bank b).trackerOk →
      let x := s.bank b
      let y := s.setBank b (x.counted s.settings.threshold p)
      let refused := p ∉ x.targets ∧ 4 ≤ x.targets.length
        ∧ ((∃ i n, x.tracker.get i = some { row := p, count := n } ∧ s.settings.threshold ≤ n + 1)
          ∨ ∀ i, ∃ e, x.tracker.get i = some e ∧ e.row ≠ p ∧ s.settings.threshold ≤ e.count + 1)
      (refused → s.track b p = y.raise .targetOverflow (some b) none (.phys p)) ∧ (¬ refused → s.track b p = y)

/-! ### Reports -/

/-- A REPORT is taken (R126 to R129): its record is counted, saturating, and moved to the front, or a new one is put there, the last record of
a full list first evicted with SUSPECT_EVICTED; the REPORT leaves the lane and DONE is handed. Here the record meets no threshold. -/
def Obligations.ReportIsCounted : Prop :=
  ∀ (p : Report) (rest : List Report) (s : State), s.reportLane = p :: rest → s.link = .up → s.suspectList.length ≤ 32 →
    let done := fun (l : List Suspect) => ({ s with
      suspectList := l, reportLane := rest, outbound := s.outbound ++ [.reply p.tag none .done] } : State)
    let new : Suspect := {
      bank := p.bank, row := p.row, flagged := false
      corrected := if p.kind = .corrected then 1 else 0, uncorrected := if p.kind = .corrected then 0 else 1 }
    (∀ l e l', s.suspectList = l ++ e :: l' → e.bank = p.bank → e.row = p.row →
      (∀ f ∈ l ++ l', ¬ (f.bank = p.bank ∧ f.row = p.row)) →
      let e' : Suspect := { e with
        corrected := if p.kind = .corrected then min 255 (e.corrected + 1) else e.corrected
        uncorrected := if p.kind = .corrected then e.uncorrected else min 15 (e.uncorrected + 1) }
      e'.corrected < s.settings.correctedThr → e'.uncorrected < s.settings.uncorrectedThr →
      exec .reportTake s = .next (done (e' :: (l ++ l'))))
    ∧ ((∀ f ∈ s.suspectList, ¬ (f.bank = p.bank ∧ f.row = p.row)) →
        new.corrected < s.settings.correctedThr → new.uncorrected < s.settings.uncorrectedThr →
        (s.suspectList.length < 32 → exec .reportTake s = .next (done (new :: s.suspectList)))
        ∧ ∀ l e, s.suspectList = l ++ [e] → l.length = 31 → exec .reportTake s = .next ((done (new :: l)).raise .suspectEvicted
            (some e.bank) (some e.row) (.evicted e.corrected e.uncorrected e.flagged)))

/-- The evaluation of the record of a REPORT that meets a threshold (R127 to R132, R11, R5). The record, wherever it stood in the list, or a
new one, for which a full list first evicts its last record with SUSPECT_EVICTED, is counted and comes to the front. With auto-steer off it
is flagged. With auto-steer on: a row with a SEALED record is flagged with SEALED_ROW_FAULTY; one in MIGRATING, RETURNING or SEALING is
flagged; with no FREE spare it is flagged with SPARES_EXHAUSTED; with a full migration queue it is flagged; and a row without a record is
steered onto the lowest FREE spare with origin AUTO, a STEERED one re-steered with retire-old yes, its job queued and its suspect record
removed. DONE is handed. -/
def Obligations.ReportIsEvaluated : Prop :=
  ∀ (p : Report) (rest : List Report) (e : Suspect) (l : List Suspect) (s u : State), s.reportLane = p :: rest → s.link = .up →
    s.suspectList.length ≤ 32 →
    ((∃ l₁ f l₂, s.suspectList = l₁ ++ f :: l₂ ∧ f.bank = p.bank ∧ f.row = p.row ∧ (∀ g ∈ l₁ ++ l₂, ¬ (g.bank = p.bank ∧ g.row = p.row))
          ∧ e = { f with
                  corrected := if p.kind = .corrected then min 255 (f.corrected + 1) else f.corrected
                  uncorrected := if p.kind = .corrected then f.uncorrected else min 15 (f.uncorrected + 1) }
          ∧ l = l₁ ++ l₂ ∧ u = s)
      ∨ ((∀ g ∈ s.suspectList, ¬ (g.bank = p.bank ∧ g.row = p.row))
          ∧ e = { bank := p.bank, row := p.row, flagged := false
                  corrected := if p.kind = .corrected then 1 else 0, uncorrected := if p.kind = .corrected then 0 else 1 }
          ∧ (s.suspectList.length < 32 ∧ l = s.suspectList ∧ u = s
            ∨ ∃ f, s.suspectList = l ++ [f] ∧ l.length = 31
                ∧ u = s.raise .suspectEvicted (some f.bank) (some f.row) (.evicted f.corrected f.uncorrected f.flagged)))) →
    (s.settings.correctedThr ≤ e.corrected ∨ s.settings.uncorrectedThr ≤ e.uncorrected) →
    let x := s.bank p.bank
    let done := fun (t : State) (l' : List Suspect) => ({ t with
      suspectList := l', reportLane := rest, outbound := s.outbound ++ [.reply p.tag none .done] } : State)
    let flagged := { e with flagged := true } :: l
    (s.settings.autoSteer = false → exec .reportTake s = .next (done u flagged))
    ∧ (s.settings.autoSteer = true → x.tableOk →
        (∀ d c, x.records.get d = some c → c.row = p.row →
          (∀ n, c.state = .fused n → exec .reportTake s = .next ((done u flagged).raise .sealedRowFaulty (some p.bank) (some p.row)
            (.faulty p.kind e.corrected e.uncorrected)))
          ∧ ((∃ o, c.state = .migrating o) ∨ c.state = .returning ∨ (∃ n, c.state = .sealing n) →
            exec .reportTake s = .next (done u flagged))
          ∧ (c.state = .steered → ∀ d', x.lowestFree d' → s.migQueue.length < 8 → exec .reportTake s = .next (done ((u.setBank p.bank { x with
              records := (x.records.set d.val none d.isLt).set d'.val
                (some { c with state := .migrating (some (d, true)), origin := .auto }) d'.isLt
              spares := x.spares.set d'.val .held d'.isLt }).queueJob p.bank p.row) l)))
        ∧ (x.noRecord p.row → ∀ d, x.lowestFree d → s.migQueue.length < 8 → exec .reportTake s = .next (done ((u.setBank p.bank { x with
              records := x.records.set d.val (some { row := p.row, state := .migrating none, origin := .auto, poison := 0 }) d.isLt
              spares := x.spares.set d.val .held d.isLt }).queueJob p.bank p.row) l))
        ∧ (x.noRecord p.row ∨ (∃ d c, x.records.get d = some c ∧ c.row = p.row ∧ c.state = .steered) →
          ((∀ d, x.spares.get d ≠ .free) → exec .reportTake s = .next ((done u flagged).raise .sparesExhausted (some p.bank) (some p.row)
            (.origin .auto)))
          ∧ ((∃ d, x.spares.get d = .free) → 8 ≤ s.migQueue.length → exec .reportTake s = .next (done u flagged))))

/-! ### Service requests -/

/-- The read requests answer OK with what they read, byte by byte as R178, Table 9-2 and Tables 11-6 to 11-8 lay it out, and change nothing
but the exchange (R153, R157 to R161, R167, R174); LOOKUP answers NOT_FOUND when the key has neither record (R158); STATUS is served in
LOADING too, with the skipped and next-free values marked not yet set (R150). A response that is `late` leaves the port SERVING (log 20).
The codes, widths, orders and groupings that R178 leaves open are the model's choice (log 21): in STATUS the two-byte counts, the one byte of
the pass position, the cursor, the load position and next-free, the codes of the part state, the link state, the programmer, the move kind,
the claim kind and the entry kind, and the presence bytes of the programmer and the claim; in BANK the code of the NEED state and the ascending slot order of
the tracker entries; in NOTICE_TOP the grouping and the bytes of a detail. -/
def Obligations.ReadRequestsAnswer : Prop :=
  ∀ (xn : Byte) (late : Bool) (s : State), s.isServing = false →
    let opt := fun (o : Option (List Byte)) => match o with
      | none => [(0x00 : Byte)]
      | some l => 0x01 :: l
    let recordEntry := fun (b : Bank) (d : Spare) (e : Rec) =>
      let entry := fun (code presence old slot : Byte) =>
        let origin : Byte := match e.origin with
          | .managed => 0x01
          | .auto => 0x02
          | .restored => 0x03
        byteOf b.val :: (twoBytes e.row.val ++ [code, byteOf d.val, presence, old, origin, byteOf e.poison, slot])
      match e.state with
      | .migrating none => entry 0x01 0x00 0x00 0x00
      | .migrating (some (f, false)) => entry 0x01 0x01 (byteOf f.val) 0x00
      | .migrating (some (f, true)) => entry 0x01 0x05 (byteOf f.val) 0x00
      | .steered => entry 0x02 0x00 0x00 0x00
      | .sealing n => entry 0x03 0x02 0x00 (byteOf n.val)
      | .fused n => entry 0x04 0x02 0x00 (byteOf n.val)
      | .returning => entry 0x05 0x00 0x00 0x00
    let suspectEntry := fun (e : Suspect) =>
      byteOf e.bank.val :: (twoBytes e.row.val ++ [byteOf e.corrected, byteOf e.uncorrected, flagByte e.flagged])
    let records := fun (p : RecState → Bool) =>
      twoBytes (allBanks.map fun b => (List.finRange 8).countP fun d => ((s.bank b).records.get d).any fun e => p e.state).sum
    let recordCounts :=
      records (fun st => match st with | .migrating _ => true | _ => false) ++ records (fun st => decide (st = .steered))
        ++ records (fun st => match st with | .sealing _ => true | _ => false)
        ++ records (fun st => match st with | .fused _ => true | _ => false) ++ records (fun st => decide (st = .returning))
    let spares := fun (p : SpareState → Bool) =>
      twoBytes (allBanks.map fun b => (List.finRange 8).countP fun d => p ((s.bank b).spares.get d)).sum
    let claimKind := fun (k : ClaimKind) => match k with
      | .copy => (0x00 : Byte)
      | .switch => 0x01
      | .final => 0x02
    let context := fun (a : Active) =>
      byteOf a.bank.val :: (twoBytes a.row.val ++ [if a.kind = .move then 0x00 else 0x01] ++ twoBytes a.source.val ++ twoBytes a.dest.val
        ++ [byteOf a.cursor] ++ (List.finRange 8).map (fun k => flagByte (a.mask.get k)) ++ opt (a.passPos.map fun k => [byteOf k.val])
        ++ [byteOf a.passesDone, flagByte a.abort, byteOf a.corrected, byteOf a.poisoned])
    let programming := fun (p : Programming) => byteOf p.slot.val :: match p.entry with
      | .row b r d => 0x01 :: byteOf b.val :: (twoBytes r.val ++ [byteOf d.val])
      | .void b d => [0x02, byteOf b.val, byteOf d.val]
    let u := s.summary
    let detail := fun (d : Detail) => match d with
      | .shadow .closed => [0x00, 0x00]
      | .shadow (.opened _ _) => [0x01, 0x00]
      | .shadow (.claimed .sweep) => [0x02, 0x01, 0x01]
      | .shadow (.claimed .forced) => [0x02, 0x01, 0x02]
      | .shadow (.claimed .copy) => [0x02, 0x01, 0x03]
      | .shadow (.claimed .switch) => [0x02, 0x01, 0x04]
      | .shadow (.claimed .final) => [0x02, 0x01, 0x05]
      | .phys p => twoBytes p.val
      | .faulty k c n => [if k = .corrected then 0x01 else 0x02, byteOf c, byteOf n]
      | .origin o => [match o with | .managed => 0x01 | .auto => 0x02 | .restored => 0x03]
      | .spare d => [byteOf d.val]
      | .slot n => [byteOf n.val]
      | .evicted c n f => [byteOf c, byteOf n, flagByte f]
      | .poison n => [byteOf n]
      | .load v => [byteOf v.entries, byteOf v.conflicts, byteOf v.spoiled, byteOf v.skipped] ++ v.nextFree.toList.map byteOf
      | .fault r g => r.code :: opt (g.map fun g => [byteOf g.val])
    let notice := fun (k : NoticeKind) => let e := s.notice k
      byteOf (k.index.val + 1) :: byteOf e.count :: (opt (e.bank.map fun b => [byteOf b.val]) ++ opt (e.row.map fun r => twoBytes r.val)
        ++ opt (e.detail.map detail))
    (s.part = .loading → exec (.status ⟨xn, late⟩) s = .next (s.answeredRead late xn .status .ok
        (0x01 :: byteOf s.loadPos :: ([byteOf u.entries, byteOf u.conflicts, byteOf u.spoiled, 0x00, 0x00]
          ++ recordCounts ++ spares (fun v => decide (v = .free))))))
    ∧ (s.part = .running →
        exec (.status ⟨xn, late⟩) s = .next (s.answeredRead late xn .status .ok
          ([0x02, match s.link with | .down => 0x00 | .resetting => 0x01 | .up => 0x02,
              byteOf s.held.length, byteOf s.reportLane.length, byteOf s.outbound.length]
            ++ opt (if s.link = .resetting then some [byteOf (allBanks.countP fun b => !(s.bank b).reported)] else none)
            ++ recordCounts ++ spares (fun v => decide (v = .free)) ++ spares (fun v => match v with | .bad _ => true | _ => false)
            ++ [match s.active.map Active.phase with
                  | none => 0x00 | some .copying => 0x01 | some .recopying => 0x02 | some .switching => 0x03 | some .final => 0x04,
                byteOf s.migQueue.length]
            ++ opt (s.active.map context)
            ++ opt (s.active.bind fun a => (s.bank a.bank).migClaim.map fun k => [claimKind k])
            ++ [byteOf u.entries, byteOf u.conflicts, byteOf u.spoiled, 0x01, byteOf u.skipped] ++ opt (u.nextFree.map fun n => [byteOf n])
            ++ [byteOf s.nextFree, flagByte s.programmer.isSome] ++ opt (s.programmer.map programming)
            ++ [byteOf s.suspectList.length, byteOf (noticeKinds.countP fun k => (s.notice k).pending),
                byteOf (noticeKinds.countP fun k => (s.notice k).pending && !(s.notice k).masked)]))
        ∧ (∀ b : Bank, (s.bank b).tableOk → ∀ spare : Spare → List Byte,
            (∀ d, (s.bank b).spares.get d = .free → spare d = [0x00, 0x00, 0x00]) →
            (∀ d v, (s.bank b).spares.get d = .bad v → spare d = [if v then 0x06 else 0x02, 0x00, 0x00]) →
            (∀ d e, (s.bank b).records.get d = some e → spare d = 0x01 :: twoBytes e.row.val) →
            (∀ d d' e o, (s.bank b).records.get d' = some e → e.state = .migrating (some (d, o)) → spare d = 0x09 :: twoBytes e.row.val) →
            exec (.listBank ⟨xn, late⟩ (bankByte b)) s = .next (s.answeredRead late xn (.list (bankByte b)) .ok
              (byteOf ((List.finRange 8).countP fun d => ((s.bank b).records.get d).isSome)
                :: ((List.finRange 8).flatMap (fun d => match (s.bank b).records.get d with
                      | none => []
                      | some e => recordEntry b d e)
                    ++ (List.finRange 8).flatMap spare))))
        ∧ (∀ b : Bank, let x := s.bank b
            exec (.bankState ⟨xn, late⟩ (bankByte b)) s = .next (s.answeredRead late xn (.bank (bankByte b)) .ok
              ((match x.shadow with
                | .closed => [0x00, 0x00, 0x00, 0x00, 0x00, 0x00]
                | .opened r p => 0x01 :: (twoBytes r.val ++ twoBytes p.val ++ [0x00])
                | .claimed k => [0x02, 0x00, 0x00, 0x00, 0x00,
                    match k with | .sweep => 0x01 | .forced => 0x02 | .copy => 0x03 | .switch => 0x04 | .final => 0x05])
              ++ [flagByte x.revoked, byteOf x.passover, flagByte x.forced,
                  match x.migClaim with | none => 0x00 | some .copy => 0x03 | some .switch => 0x04 | some .final => 0x05,
                  byteOf x.lane.length]
              ++ twoBytes x.pointer ++ [byteOf x.debt, flagByte x.need] ++ twoBytes (x.slot.getD 0xFFFF)
              ++ [byteOf ((List.finRange 6).countP fun i => (x.tracker.get i).isSome)]
              ++ (List.finRange 6).flatMap (fun i => match x.tracker.get i with
                  | none => []
                  | some e => byteOf i.val :: (twoBytes e.row.val ++ twoBytes e.count))
              ++ [byteOf x.targets.length] ++ x.targets.flatMap (fun p => twoBytes p.val))))
        ∧ exec (.suspects ⟨xn, late⟩) s =
            .next (s.answeredRead late xn .suspects .ok (byteOf s.suspectList.length :: s.suspectList.flatMap suspectEntry))
        ∧ (∀ n : FuseNo, exec (.fuse ⟨xn, late⟩ (byteOf n.val)) s = .next (s.answeredRead late xn (.fuse (byteOf n.val)) .ok
            ((match s.image.get n with
              | .blank => [0x00, 0, 0, 0, 0, 0, 0, 0]
              | .entry (.row b r d) => 0x01 :: (encodeSlot (.row b r d)).toList
              | .entry (.void b d) => 0x02 :: (encodeSlot (.void b d)).toList
              | .spoiled => [0x03, 0, 0, 0, 0, 0, 0, 0]
              | .inProgramming e => 0x04 :: (encodeSlot e).toList) ++ [flagByte (decide (n.val < s.nextFree))])))
        ∧ (∀ v i, itemOf v = some i → exec (.getItem ⟨xn, late⟩ v) s = .next (s.answeredRead late xn (.get v) .ok (twoBytes (s.settings.get i))))
        ∧ exec (.noticeTop ⟨xn, late⟩) s = .next (s.answeredRead late xn .noticeTop .ok
            (opt (s.topNotice.map notice) ++ noticeKinds.flatMap fun k => [flagByte (s.notice k).pending, flagByte (s.notice k).masked]))
        ∧ ∀ (b : Bank) (r : LRow) (record : Option (Spare × Rec)) (place : Option Nat) (suspect : Option (Nat × Suspect)), s.listsOk →
            (s.bank b).tableOk →
            (record = none ∧ (s.bank b).noRecord r ∨ ∃ d e, record = some (d, e) ∧ (s.bank b).records.get d = some e ∧ e.row = r) →
            (place = none ∧ (b, r) ∉ s.migQueue ∨ ∃ l l', place = some l.length ∧ s.migQueue = l ++ (b, r) :: l' ∧ (b, r) ∉ l) →
            (suspect = none ∧ (∀ e ∈ s.suspectList, ¬ (e.bank = b ∧ e.row = r))
              ∨ ∃ l e l', suspect = some (l.length, e) ∧ s.suspectList = l ++ e :: l' ∧ e.bank = b ∧ e.row = r) →
            exec (.lookup ⟨xn, late⟩ (bankByte b) (rowWord r)) s = .next (if record = none ∧ suspect = none then
                s.answeredRead late xn (.lookup (bankByte b) (rowWord r)) .notFound []
              else s.answeredRead late xn (.lookup (bankByte b) (rowWord r)) .ok
                (byteOf ((if record = none then 0 else 1) + (if suspect = none then 0 else 2) + (if place = none then 0 else 4)
                    + (if s.active.any (fun a => decide (a.bank = b ∧ a.row = r)) then 8 else 0))
                  :: ((match record with | none => [] | some (d, e) => recordEntry b d e)
                    ++ (match place with | none => [] | some n => [byteOf (n + 1)])
                    ++ (match suspect with | none => [] | some (n, e) => suspectEntry e ++ [byteOf (n + 1)])))))

/-- The port's checks (R146, R153, R154, R155, R156): in RESET no request is taken; while SERVING it is discarded, and the request being served
continues, its response ready after this step unless it is still late (log 20); in LOADING every request but STATUS is answered NOT_READY;
while RUNNING a repeat of the last changing request is answered EXISTS with the recorded result and contents; else a field that names no
address is answered BAD_ADDRESS, and else a value outside its range BAD_VALUE. Nothing but the exchange changes. For every request. -/
def Obligations.PortChecksRefuse : Prop :=
  ∀ (xn : Byte) (late : Bool) (q : Request) (s : State),
    (s.part = .reset → exec (requestCommand xn late q) s = .next s)
    ∧ (∀ request response, s.part ≠ .reset → s.exchange = .serving request response →
        exec (requestCommand xn late q) s = .next (if late then s else { s with exchange := .answered response }))
    ∧ (s.isServing = false →
        (s.part = .loading → q ≠ .status → exec (requestCommand xn late q) s = .next (s.answeredRead late xn q .notReady []))
        ∧ (s.part = .running →
            (∀ l, s.lastChanging = some l → q.changing = true → l.code = q.code → l.xn = xn → l.fields = q.fields →
              exec (requestCommand xn late q) s = .next (s.answeredRead late xn q .exists (l.result.code :: l.contents)))
            ∧ (s.repeats xn q = none →
                (badAddress q = true → exec (requestCommand xn late q) s = .next (s.answeredRead late xn q .badAddress []))
                ∧ (badAddress q = false → badValue q = true →
                    exec (requestCommand xn late q) s = .next (s.answeredRead late xn q .badValue [])))))

/-- STEER (R9, R10, R5, R70, R71). A row without a record gets a MIGRATING record with origin MANAGED on the lowest FREE spare, and a STEERED one
is re-steered onto it with retire-old no; the job is queued, and the answer is ACCEPTED with the case and the spares. With no FREE spare the
answer is NO_SPARE and SPARES_EXHAUSTED is raised; with a full queue QUEUE_FULL; SEALED is refused SEALED, and MIGRATING, RETURNING and
SEALING are refused BUSY; in these nothing changes at the table. A response that is `late` leaves the port SERVING, and one that is not is
ready after the step, which is the model's choice (log 20). -/
def Obligations.SteerRequest : Prop :=
  ∀ (xn : Byte) (late : Bool) (b : Bank) (r : LRow) (s : State),
    let q : Request := .steer (bankByte b) (rowWord r)
    let x := s.bank b
    let run := exec (.steer ⟨xn, late⟩ (bankByte b) (rowWord r)) s
    s.serves xn q → x.tableOk →
    (x.noRecord r → ∀ d, x.lowestFree d → s.migQueue.length < 8 → run = .next (((s.setBank b { x with
          records := x.records.set d.val (some { row := r, state := .migrating none, origin := .managed, poison := 0 }) d.isLt
          spares := x.spares.set d.val .held d.isLt }).queueJob b r).answeredChange late xn q .accepted [0x00, byteOf d.val]))
    ∧ (∀ f e, x.records.get f = some e → e.row = r →
        (e.state = .steered → ∀ d, x.lowestFree d → s.migQueue.length < 8 → run = .next (((s.setBank b { x with
            records := (x.records.set f.val none f.isLt).set d.val
              (some { e with state := .migrating (some (f, false)), origin := .managed }) d.isLt
            spares := x.spares.set d.val .held d.isLt }).queueJob b r).answeredChange late xn q .accepted [0x01, byteOf d.val, byteOf f.val]))
        ∧ ((∃ n, e.state = .fused n) → run = .next (s.answeredChange late xn q .isSealed []))
        ∧ ((∃ o, e.state = .migrating o) ∨ e.state = .returning ∨ (∃ n, e.state = .sealing n) →
            run = .next (s.answeredChange late xn q .busy [])))
    ∧ (x.noRecord r ∨ (∃ f e, x.records.get f = some e ∧ e.row = r ∧ e.state = .steered) →
        ((∀ d, x.spares.get d ≠ .free) → run = .next ((s.raise .sparesExhausted (some b) (some r) (.origin .managed)).answeredChange late
          xn q .noSpare []))
        ∧ ((∃ d, x.spares.get d = .free) → 8 ≤ s.migQueue.length → run = .next (s.answeredChange late xn q .queueFull [])))

/-- A job joins the tail of the migration queue, and the engine then takes a job if it can (R70, R71). While a job is active, or with no job
pending, nothing is taken. An IDLE engine takes the job at the head of the queue (R71, R72, R7): it leaves the queue, the context names the
record's move, with a clear mask and every count 0, the engine is COPYING, and a COPY claim is placed at the arbiter of the record's
bank. -/
def Obligations.JobJoinsTheQueue : Prop :=
  ∀ (b : Bank) (r : LRow) (s : State),
    s.queueJob b r = ({ s with migQueue := s.migQueue ++ [(b, r)] } : State).takeJob
    ∧ (s.active ≠ none ∨ s.migQueue = [] → s.takeJob = s)
    ∧ ∀ q, s.active = none → s.migQueue = (b, r) :: q → (s.bank b).tableOk → ∀ d e, (s.bank b).records.get d = some e → e.row = r →
        ∀ kind src dst,
          (e.state = .migrating none ∧ kind = .move ∧ src = ownRow r ∧ dst = spareRow d
            ∨ (∃ f o, e.state = .migrating (some (f, o)) ∧ kind = .move ∧ src = spareRow f ∧ dst = spareRow d)
            ∨ e.state = .returning ∧ kind = .ret ∧ src = spareRow d ∧ dst = ownRow r) →
          s.takeJob = { s.setBank b { s.bank b with
              migClaim := some .copy, claimNew := decide ((s.bank b).shadow = .closed) } with
            migQueue := q
            active := some {
              phase := .copying, bank := b, row := r, kind := kind, source := src, dest := dst, cursor := 0
              mask := Vector.replicate 8 false, passPos := none, passesDone := 0, abort := false, corrected := 0, poisoned := 0 } }

/-- RELEASE (R12 to R14, R85). No record: NOT_FOUND. A MIGRATING record whose job is not active: the job leaves the queue, the spare becomes
FREE, the record is removed or returns to STEERED on its from-spare, and the answer is OK. A MIGRATING record whose job is active: abort-pending
is set and the answer is ACCEPTED; it was set, or a chunk job holds the bank, or the engine is in SWITCHING or FINAL, and nothing else
changes. A STEERED record: RETURNING, its job queued, ACCEPTED, or QUEUE_FULL. SEALED is refused SEALED; RETURNING and SEALING BUSY. That a
MIGRATING record whose job is neither active nor pending, which R70 rules out, is treated as pending is the model's choice (log 26), and so is
that a response that is `late` leaves the port SERVING and one that is not is ready after the step (log 20). -/
def Obligations.ReleaseRequest : Prop :=
  ∀ (xn : Byte) (late : Bool) (b : Bank) (r : LRow) (s : State),
    let q : Request := .release (bankByte b) (rowWord r)
    let x := s.bank b
    let run := exec (.release ⟨xn, late⟩ (bankByte b) (rowWord r)) s
    s.serves xn q → x.tableOk →
    (x.noRecord r → run = .next (s.answeredChange late xn q .notFound []))
    ∧ ∀ d e, x.records.get d = some e → e.row = r →
        (e.state = .migrating none → (∀ a, s.active = some a → ¬ (a.bank = b ∧ a.row = r)) →
          run = .next (({ s.setBank b { x with
              records := x.records.set d.val none d.isLt, spares := x.spares.set d.val .free d.isLt } with
            migQueue := s.migQueue.erase (b, r) } : State).answeredChange late xn q .ok [0x00, byteOf d.val]))
        ∧ (∀ f o, e.state = .migrating (some (f, o)) → (∀ a, s.active = some a → ¬ (a.bank = b ∧ a.row = r)) →
          run = .next (({ s.setBank b { x with
              records := (x.records.set d.val none d.isLt).set f.val (some { e with state := .steered }) f.isLt
              spares := x.spares.set d.val .free d.isLt } with
            migQueue := s.migQueue.erase (b, r) } : State).answeredChange late xn q .ok [0x01, byteOf d.val]))
        ∧ (∀ o a, e.state = .migrating o → s.active = some a → a.bank = b → a.row = r →
          (a.abort = true ∨ a.phase = .switching ∨ a.phase = .final ∨ x.shadow = .claimed .copy) →
          run = .next (({ s with active := some { a with abort := true } } : State).answeredChange late xn q .accepted [0x02]))
        ∧ (e.state = .steered → s.migQueue.length < 8 → run = .next (((s.setBank b { x with
            records := x.records.set d.val (some { e with state := .returning }) d.isLt }).queueJob b r).answeredChange late xn q .accepted [0x03]))
        ∧ (e.state = .steered → 8 ≤ s.migQueue.length → run = .next (s.answeredChange late xn q .queueFull []))
        ∧ ((∃ n, e.state = .fused n) → run = .next (s.answeredChange late xn q .isSealed []))
        ∧ (e.state = .returning ∨ (∃ n, e.state = .sealing n) → run = .next (s.answeredChange late xn q .busy []))

/-- A RELEASE taken in COPYING or RECOPYING while no chunk job holds the bank takes effect at once (R85, R86, R23): the waiting claim is withdrawn
and the passover count returns to 0, the spare becomes FREE, the record is removed or returns to STEERED on its from-spare, MIGRATION_ABORTED
is raised with the freed spare, and the engine is IDLE, and so takes the job at the head of the migration queue (R71), as JobJoinsTheQueue
says of `State.takeJob`. A response that is `late` leaves the port SERVING, and one that is not is ready after the step, which is the model's
choice (log 20). -/
def Obligations.ReleaseAbortsAWaitingJob : Prop :=
  ∀ (xn : Byte) (late : Bool) (b : Bank) (r : LRow) (d : Spare) (e : Rec) (old : Option (Spare × Bool)) (a : Active) (s : State),
    let q : Request := .release (bankByte b) (rowWord r)
    let x := s.bank b
    s.serves xn q → x.tableOk → x.records.get d = some e → e.row = r → e.state = .migrating old →
    s.active = some a → a.bank = b → a.row = r → a.abort = false → (a.phase = .copying ∨ a.phase = .recopying) →
    x.shadow ≠ .claimed .copy → x.migClaim = some .copy →
    exec (.release ⟨xn, late⟩ (bankByte b) (rowWord r)) s = .next (((({ s.setBank b { x with
        migClaim := none, claimNew := false, passover := 0
        spares := x.spares.set d.val .free d.isLt
        records := match old with
          | none => x.records.set d.val none d.isLt
          | some (f, _) => (x.records.set d.val none d.isLt).set f.val (some { e with state := .steered }) f.isLt } with
      active := none } : State).raise .migrationAborted (some b) (some r) (.spare d)).takeJob).answeredChange late xn q .accepted [0x02])

/-- SEAL (R15, R142, R164), in the order of its checks: NOT_FOUND; BUSY for MIGRATING, RETURNING and SEALING; SEALED; then, for a STEERED record,
BUSY while the programmer is in use and FUSE_FULL at pointer 64; else the record becomes SEALING with the slot of the pointer, the pointer
advances, the programmer takes a ROW entry of the row and its spare, and the image of the slot shows it. A response that is `late` leaves the
port SERVING, and one that is not is ready after the step, which is the model's choice (log 20). -/
def Obligations.SealRequest : Prop :=
  ∀ (xn : Byte) (late : Bool) (b : Bank) (r : LRow) (s : State),
    let q : Request := .seal (bankByte b) (rowWord r)
    let x := s.bank b
    let run := exec (.sealRow ⟨xn, late⟩ (bankByte b) (rowWord r)) s
    s.serves xn q → x.tableOk →
    (x.noRecord r → run = .next (s.answeredChange late xn q .notFound []))
    ∧ ∀ d e, x.records.get d = some e → e.row = r →
        ((∃ o, e.state = .migrating o) ∨ e.state = .returning ∨ (∃ n, e.state = .sealing n) → run = .next (s.answeredChange late xn q .busy []))
        ∧ ((∃ n, e.state = .fused n) → run = .next (s.answeredChange late xn q .isSealed []))
        ∧ (e.state = .steered →
            (s.programmer ≠ none → run = .next (s.answeredChange late xn q .busy []))
            ∧ (s.programmer = none → 64 ≤ s.nextFree → run = .next (s.answeredChange late xn q .fuseFull []))
            ∧ (s.programmer = none → ∀ n : FuseNo, s.nextFree = n.val → run = .next (({ s.setBank b { x with
                  records := x.records.set d.val (some { e with state := .sealing n }) d.isLt } with
                programmer := some { slot := n, entry := .row b r d }, nextFree := n.val + 1
                image := s.image.set n.val (.inProgramming (.row b r d)) n.isLt } : State).answeredChange late xn q .accepted [0x00, byteOf n.val])))

/-- VOID (R18, R142, R165): a HELD spare is refused IN_USE; without a seal a FREE spare becomes BAD, not void-sealed, and a BAD one stays, OK;
with a seal a void-sealed spare stays, OK; otherwise BUSY while the programmer is in use and FUSE_FULL at pointer 64, and else the spare
is BAD, not void-sealed, and the programmer takes a VOID entry into the slot of the pointer. A response that is `late` leaves the port SERVING,
and one that is not is ready after the step, which is the model's choice (log 20). -/
def Obligations.VoidRequest : Prop :=
  ∀ (xn : Byte) (late : Bool) (b : Bank) (d : Spare) (flag : Bool) (s : State),
    let q : Request := .void (bankByte b) (byteOf d.val) (flagByte flag)
    let x := s.bank b
    let run := exec (.voidSpare ⟨xn, late⟩ (bankByte b) (byteOf d.val) (flagByte flag)) s
    let bad := s.setBank b { x with spares := x.spares.set d.val (.bad false) d.isLt }
    s.serves xn q →
    (x.spares.get d = .held → run = .next (s.answeredChange late xn q .inUse []))
    ∧ (x.spares.get d = .free → flag = false → run = .next (bad.answeredChange late xn q .ok []))
    ∧ ((∃ v, x.spares.get d = .bad v) → flag = false → run = .next (s.answeredChange late xn q .ok []))
    ∧ (x.spares.get d = .bad true → flag = true → run = .next (s.answeredChange late xn q .ok []))
    ∧ (x.spares.get d = .free ∨ x.spares.get d = .bad false → flag = true →
        (s.programmer ≠ none → run = .next (s.answeredChange late xn q .busy []))
        ∧ (s.programmer = none → 64 ≤ s.nextFree → run = .next (s.answeredChange late xn q .fuseFull []))
        ∧ (s.programmer = none → ∀ n : FuseNo, s.nextFree = n.val → run = .next (({ bad with
            programmer := some { slot := n, entry := .void b d }, nextFree := n.val + 1
            image := s.image.set n.val (.inProgramming (.void b d)) n.isLt } : State).answeredChange late xn q .accepted [0x00, byteOf n.val])))

/-- FORGET, FORGET_ALL and SET (R134, R166, R167): FORGET removes the record of its key, OK, or answers NOT_FOUND; FORGET_ALL empties the list,
OK with the number removed; SET of a value in range gives the item the value, OK with the value before, and every other item keeps its
value. That FORGET_ALL's count takes one byte is the model's choice (log 21), and so is that a response that is `late` leaves the port SERVING
and one that is not is ready after the step (log 20). -/
def Obligations.ForgetAndSetRequests : Prop :=
  ∀ (xn : Byte) (late : Bool) (s : State),
    (∀ (b : Bank) (r : LRow), s.serves xn (.forget (bankByte b) (rowWord r)) →
      (∀ l e l', s.suspectList = l ++ e :: l' → e.bank = b → e.row = r → (∀ f ∈ l ++ l', ¬ (f.bank = b ∧ f.row = r)) →
        exec (.forget ⟨xn, late⟩ (bankByte b) (rowWord r)) s =
          .next (({ s with suspectList := l ++ l' } : State).answeredChange late xn (.forget (bankByte b) (rowWord r)) .ok []))
      ∧ ((∀ f ∈ s.suspectList, ¬ (f.bank = b ∧ f.row = r)) →
        exec (.forget ⟨xn, late⟩ (bankByte b) (rowWord r)) s = .next (s.answeredChange late xn (.forget (bankByte b) (rowWord r)) .notFound [])))
    ∧ (s.serves xn .forgetAll →
        exec (.forgetAll ⟨xn, late⟩) s =
          .next (({ s with suspectList := [] } : State).answeredChange late xn .forgetAll .ok [byteOf s.suspectList.length]))
    ∧ ∀ (v : Byte) (w : BitVec 16) (i : Item), itemOf v = some i → i.inRange w.toNat = true → s.serves xn (.set v w) →
        ∃ c : Settings, exec (.setItem ⟨xn, late⟩ v w) s =
            .next (({ s with settings := c } : State).answeredChange late xn (.set v w) .ok (twoBytes (s.settings.get i)))
          ∧ c.get i = w.toNat ∧ ∀ j, j ≠ i → c.get j = s.settings.get j

/-- NOTICE_ACK and MASK (R172, R173, R175): an acknowledgement of a pending kind answers OK with the entry as it stood and leaves it not pending
with count 0, its subject and detail kept; of a kind that is not pending NOT_FOUND, and nothing changes; MASK gives the kind its setting and
answers OK with the setting before and the entry; every other kind's entry and mask stay, and ALERT is asserted afterwards exactly when some
kind is pending and unmasked. The bytes of a detail, and the count's place in NOT_FOUND, are the model's choice (log 21), and so is that a
response that is `late` leaves the port SERVING and one that is not is ready after the step (log 20). -/
def Obligations.NoticeRequests : Prop :=
  ∀ (xn v m : Byte) (late : Bool) (k : NoticeKind) (on : Bool) (s : State), kindOf v = some k → m = flagByte on →
    let e := s.notice k
    let level := fun (t : State) => t.alert = true ↔ ∃ j : NoticeKind, (t.notice j).pending = true ∧ (t.notice j).masked = false
    (s.serves xn (.noticeAck v) →
      (e.pending = true → ∃ u : State, exec (.noticeAck ⟨xn, late⟩ v) s = .next (u.answeredChange late xn (.noticeAck v) .ok e.bytes)
        ∧ u = { s with notices := u.notices, alert := u.alert } ∧ u.notice k = { e with pending := false, count := 0 }
        ∧ (∀ j, j ≠ k → u.notice j = s.notice j) ∧ level u)
      ∧ (e.pending = false → exec (.noticeAck ⟨xn, late⟩ v) s =
          .next (s.answeredChange late xn (.noticeAck v) .notFound ({ e with count := 0 } : NoticeEntry).bytes)))
    ∧ (s.serves xn (.mask v m) → ∃ u : State,
        exec (.maskKind ⟨xn, late⟩ v m) s = .next (u.answeredChange late xn (.mask v m) .ok (flagByte e.masked :: flagByte e.pending :: e.bytes))
        ∧ u = { s with notices := u.notices, alert := u.alert } ∧ u.notice k = { e with masked := on }
        ∧ (∀ j, j ≠ k → u.notice j = s.notice j) ∧ level u)

/-- The notice table. A raise of a kind (R170, R173): the entry is pending, its count rises by 1 and stays at 255, its subject and detail are the
raise's, its mask setting stays; every other kind's entry stays; ALERT is asserted exactly when some kind is pending and unmasked; nothing
else changes. NOTICE_TOP chooses the pending and unmasked kind of the highest priority of Table 10-1, and none when there is none
(R174). -/
def Obligations.NoticeTable : Prop :=
  ∀ (s : State),
    (∀ (k : NoticeKind) (b : Option Bank) (r : Option LRow) (d : Detail),
      let t := s.raise k b r d
      t = { s with notices := t.notices, alert := t.alert }
        ∧ t.notice k = {
            pending := true, count := min 255 ((s.notice k).count + 1), bank := b, row := r, detail := some d, masked := (s.notice k).masked }
        ∧ (∀ j, j ≠ k → t.notice j = s.notice j)
        ∧ (t.alert = true ↔ ∃ j : NoticeKind, (t.notice j).pending = true ∧ (t.notice j).masked = false))
    ∧ (∀ k : NoticeKind, s.topNotice = some k ↔
        ((s.notice k).pending = true ∧ (s.notice k).masked = false
          ∧ ∀ j : NoticeKind, j.index < k.index → ¬ ((s.notice j).pending = true ∧ (s.notice j).masked = false)))
    ∧ (s.topNotice = none ↔ ∀ j : NoticeKind, ¬ ((s.notice j).pending = true ∧ (s.notice j).masked = false))

/-- Frames that are no request (R155, R177, R146, R153, R154): a completed frame of three bytes or more that is none of Table 11-4 is answered
UNKNOWN_REQUEST with its code and exchange number; one of fewer than three bytes, and a frame dropped before its end, leave the exchange as it
was; in RESET none is taken; while SERVING it is discarded, and the request being served continues. A response that is `late` leaves the
port SERVING, and one that is not is ready after the step, which is the model's choice (log 20). -/
def Obligations.FramesThatAreNoRequest : Prop :=
  ∀ (code xn n : Byte) (late : Bool) (fields bytes : List Byte) (s : State),
    (s.part ≠ .reset → s.isServing = false → (n.toNat ≠ fields.length ∨ parseFields code fields = none) →
      exec (.unknownRequest ⟨code :: xn :: n :: fields, late⟩) s =
        .next { s with exchange := exchangeAfter late (code :: xn :: n :: fields) (responseFrame xn code .unknownRequest []) })
    ∧ (s.part = .reset → exec (.unknownRequest ⟨code :: xn :: n :: fields, late⟩) s = .next s)
    ∧ (∀ request response, s.part ≠ .reset → s.exchange = .serving request response →
        exec (.unknownRequest ⟨code :: xn :: n :: fields, late⟩) s =
          .next (if late then s else { s with exchange := .answered response }))
    ∧ (bytes.length < 3 → exec (.unknownRequest ⟨bytes, late⟩) s = .next s)
    ∧ exec (.requestFrameDiscarded bytes) s = .next s

/-- A response read of n bytes (R153, R154, R177): in IDLE the frame of status 0x01 is clocked out and the exchange stays; in SERVING that of
status 0x02, and the exchange stays SERVING while the response is late and else becomes ANSWERED with it, which step that is being the model's
choice (log 20); in ANSWERED the response, which is removed when it is read to its end; bytes beyond the end read 0xFF. In RESET n bytes are
clocked out of which nothing is known, and the exchange stays (R169; log 8). -/
def Obligations.ResponseReadClocksOut : Prop :=
  ∀ (n : Nat) (late : Bool) (s : State),
    (s.part ≠ .reset →
      let out := fun (f : List Byte) (x : Exchange) =>
        exec (.responseRead ⟨n, late⟩) s = .next { s with servicePortOut := (f ++ List.replicate n 0xFF).take n, exchange := x }
      (s.exchange = .idle → out [0x01, 0x00, 0x00, 0x00, 0x00, 0x00] .idle)
      ∧ (∀ q f, s.exchange = .serving q f → out [0x02, 0x00, 0x00, 0x00, 0x00, 0x00] (if late then .serving q f else .answered f))
      ∧ ∀ f, s.exchange = .answered f → out f (if f.length ≤ n then .idle else .answered f))
    ∧ (s.part = .reset → ∃ l : List Byte, l.length = n ∧
        exec (.responseRead ⟨n, late⟩) s = .next { s with servicePortOut := l, freeCount := s.freeCount + n })

/-! ### The fuse store and the part state -/

/-- The end of a programming (R143, R16, R19): the programmer is IDLE and the slot holds what it read back; read back as the entry
written, the image shows the entry, a SEALING record becomes SEALED and a spare void-sealed, with SEAL_DONE; read back as anything else,
the image is SPOILED, the record returns to STEERED, the spare stays, with SEAL_FAILED. What the slot reads back as, and that its fuses then
hold what it read, is the model's choice: an operand (log 22). -/
def Obligations.ProgrammingEnds : Prop :=
  ∀ (n : FuseNo) (b : Bank) (r : LRow) (d : Spare) (f : FuseBytes) (s : State),
    let x := s.bank b
    let ended := fun (y : BankState) (im : Image) => ({ s.setBank b y with
      fuses := s.fuses.set n.val f n.isLt, image := s.image.set n.val im n.isLt, programmer := none } : State)
    (∀ e, s.programmer = some { slot := n, entry := .row b r d } → x.tableOk → x.records.get d = some e → e.row = r → e.state = .sealing n →
      (classify f = .valid (.row b r d) → exec (.programmingEnd f) s = .next ((ended
        { x with records := x.records.set d.val (some { e with state := .fused n }) d.isLt } (.entry (.row b r d))).raise
          .sealDone (some b) (some r) (.slot n)))
      ∧ (classify f ≠ .valid (.row b r d) → exec (.programmingEnd f) s = .next ((ended
        { x with records := x.records.set d.val (some { e with state := .steered }) d.isLt } .spoiled).raise
          .sealFailed (some b) (some r) (.slot n))))
    ∧ (s.programmer = some { slot := n, entry := .void b d } →
      (classify f = .valid (.void b d) → exec (.programmingEnd f) s = .next ((ended
        { x with spares := x.spares.set d.val (.bad true) d.isLt } (.entry (.void b d))).raise .sealDone (some b) none (.spare d)))
      ∧ (classify f ≠ .valid (.void b d) → exec (.programmingEnd f) s = .next ((ended x .spoiled).raise .sealFailed (some b) none (.spare d))))

/-- The load reads the slot of the load position (R147, R24, R25), here below 63: a BLANK slot changes its image alone; a SPOILED one is
counted; a ROW entry creates a SEALED record with origin RESTORED, poison count 0 and this seal slot on its spare, which becomes HELD,
and is counted, but conflicts when a record of the row exists or the spare is not FREE; a VOID entry makes a FREE spare BAD and
void-sealed, and conflicts when it is not FREE; a conflict is counted and changes nothing at the table. The load position rises by 1.
What weak fuses make a slot read is an operand (log 22). -/
def Obligations.LoadReadsASlot : Prop :=
  ∀ (n : FuseNo) (weak : Option FuseBytes) (s : State), s.part = .loading → s.loadPos = n.val → n.val < 63 →
    let f := weak.getD (s.fuses.get n)
    let read := fun (t : State) (im : Image) (u : LoadSummary) =>
      exec (.loadSlotRead weak) s = .next { t with image := s.image.set n.val im n.isLt, summary := u, loadPos := n.val + 1 }
    let u := s.summary
    (classify f = .blank → read s .blank u)
    ∧ (classify f = .spoiled → read s .spoiled { u with spoiled := u.spoiled + 1 })
    ∧ (∀ b r d, classify f = .valid (.row b r d) →
        let x := s.bank b
        (x.noRecord r → x.spares.get d = .free → read (s.setBank b { x with
            records := x.records.set d.val (some { row := r, state := .fused n, origin := .restored, poison := 0 }) d.isLt
            spares := x.spares.set d.val .held d.isLt }) (.entry (.row b r d)) { u with entries := u.entries + 1 })
        ∧ ((∃ d' e, x.records.get d' = some e ∧ e.row = r) ∨ x.spares.get d ≠ .free →
            read s (.entry (.row b r d)) { u with entries := u.entries + 1, conflicts := u.conflicts + 1 }))
    ∧ (∀ b d, classify f = .valid (.void b d) →
        let x := s.bank b
        (x.spares.get d = .free → read (s.setBank b { x with spares := x.spares.set d.val (.bad true) d.isLt }) (.entry (.void b d))
          { u with entries := u.entries + 1 })
        ∧ (x.spares.get d ≠ .free →
            read s (.entry (.void b d)) { u with entries := u.entries + 1, conflicts := u.conflicts + 1 }))

/-- The load ends when slot 63 has been read and every bank precharged (R47, R148, R149). A bank's precharge marks the bank, and the last one after
slot 63 ends the load; a bank that has been precharged is not precharged again. Reading slot 63, whatever it reads, takes it as
LoadReadsASlot says of the slots below, completes the summary, next-free being one past the highest slot not BLANK, 0 when every slot is
BLANK, and skipped the BLANK slots below it, gives the pointer next-free, and ends the load when every bank has been precharged. At the
end the part is RUNNING, the link UP with READY, the timer begins its first period, and LOAD_DONE is raised with the summary. What weak
fuses make a slot read is an operand (log 22). -/
def Obligations.LoadEnds : Prop :=
  let running := fun (v : State) => ({ v with
    part := .running, link := .up, outbound := v.outbound ++ [.ready], timer := some v.settings.tickInterval } : State).raise
      .loadDone none none (.load v.summary)
  (∀ (b : Bank) (s : State), s.part = .loading →
    let marked := (s.port [.prechargeBank b]).setBank b { s.bank b with precharged := true }
    ((s.bank b).precharged = false → (s.loadPos ≠ 64 ∨ ∃ c : Bank, c ≠ b ∧ (s.bank c).precharged = false) →
      exec (.loadingPrechargeDone b) s = .next marked)
    ∧ ((s.bank b).precharged = false → s.loadPos = 64 → (∀ c : Bank, c ≠ b → (s.bank c).precharged = true) →
      exec (.loadingPrechargeDone b) s = .next (running marked))
    ∧ ((s.bank b).precharged = true → exec (.loadingPrechargeDone b) s = .next s))
  ∧ ∀ (weak : Option FuseBytes) (s : State), s.part = .loading → s.loadPos = 63 →
    let f := weak.getD (s.fuses.get 63)
    let u := s.summary
    let read := fun (t : State) (im : Image) (u : LoadSummary) => ∀ k : Nat, k ≤ 64 →
      let slots := s.image.set 63 im
      (∀ n : FuseNo, k ≤ n.val → slots.get n = .blank) → (∀ n : FuseNo, n.val + 1 = k → slots.get n ≠ .blank) →
      let v := ({ t with
        image := slots, loadPos := 64, nextFree := k
        summary := { u with
          nextFree := some k, skipped := (List.finRange 64).countP fun n => decide (n.val < k) && decide (slots.get n = .blank) } } : State)
      exec (.loadSlotRead weak) s = .next (if (∀ c : Bank, (s.bank c).precharged = true) then running v else v)
    (classify f = .blank → read s .blank u)
    ∧ (classify f = .spoiled → read s .spoiled { u with spoiled := u.spoiled + 1 })
    ∧ (∀ b r d, classify f = .valid (.row b r d) →
        let x := s.bank b
        (x.noRecord r → x.spares.get d = .free → read (s.setBank b { x with
            records := x.records.set d.val (some { row := r, state := .fused 63, origin := .restored, poison := 0 }) d.isLt
            spares := x.spares.set d.val .held d.isLt }) (.entry (.row b r d)) { u with entries := u.entries + 1 })
        ∧ ((∃ d' e, x.records.get d' = some e ∧ e.row = r) ∨ x.spares.get d ≠ .free →
            read s (.entry (.row b r d)) { u with entries := u.entries + 1, conflicts := u.conflicts + 1 }))
    ∧ (∀ b d, classify f = .valid (.void b d) →
        let x := s.bank b
        (x.spares.get d = .free → read (s.setBank b { x with spares := x.spares.set d.val (.bad true) d.isLt }) (.entry (.void b d))
          { u with entries := u.entries + 1 })
        ∧ (x.spares.get d ≠ .free →
            read s (.entry (.void b d)) { u with entries := u.entries + 1, conflicts := u.conflicts + 1 }))

/-- RESET_N asserted (R146, R145, R47, R89, R110, R122, R169): every block is at its part-reset values in part state RESET, and the frames that
waited are dropped (log 16). A slot being programmed is left torn and reads SPOILED; every other slot stays. A COPY or FINAL job that holds
its bank is abandoned after its first k row operations, which stand at the stack port; a burst of the destination is written, as the check of
the source's burst gives it, exactly when its write is one of them, and every other burst of the stack stays; with no such job all of them stay.
Of the row refreshes in progress in each bank, of its slot or of the aggressor being serviced, the first of them are done and stand at the stack
port, as many as the list says. The chunk buffer's marks are clear and, with no such job, its data stays (log 6); the model's own records
and the queue stay (log 7). How far a programming, a job and the refreshes had come are operands, which is the model's choice (log 23).
RESET_N returning high makes the part LOADING with the same values; while it is high that event changes nothing (log 1). -/
def Obligations.PartReset : Prop :=
  ∀ (n : Nat) (m : Byte) (k : Nat) (l : List (Bank × Nat)) (s : State),
    let fresh := fun (p : PartState) (fuses : Vector FuseBytes 64) (stack : Memory) (buffer : Vector BufBurst 8) (port : List StackOp) =>
      ({ State.reset with
        part := p, fuses := fuses, stack := stack, buffer := buffer, stackPort := port, linkOut := s.linkOut
        servicePortOut := s.servicePortOut, freeCount := s.freeCount, pending := s.pending } : State)
    let cleared := Vector.ofFn fun i => { s.buffer.get i with poison := false }
    let chunks := fun (a : Active) =>
      if (s.bank a.bank).shadow = .claimed .copy then a.chunk.toList
      else if (s.bank a.bank).shadow = .claimed .final then (List.finRange 8).filter fun c : Chunk => a.mask.get c
      else []
    let jobOps := s.active.elim [] fun a => (chunks a).flatMap a.chunkOps
    let refreshes := fun (b : Bank) => (match (s.bank b).slot, (s.bank b).service with
      | some j, _ => slotRows j
      | none, some { current := some (p, reach), .. } => neighbours reach p
      | none, _ => []).map (StackOp.refreshRow b)
    let written := fun (a : Active) (c : Col) =>
      ∃ (i j : Nat) (q : Chunk), (chunks a)[i]? = some q ∧ c.val = 8 * q.val + j ∧ j < 8 ∧ 20 * i + 11 + j < k
    (∃ fuses stack buffer, exec (.partReset n m ⟨k, l⟩) s = .next (fresh .reset fuses stack buffer
          (s.stackPort ++ jobOps.take k ++ allBanks.flatMap fun b => (refreshes b).take ((l.lookup b).getD 0)))
      ∧ (s.programmer = none → fuses = s.fuses)
      ∧ (∀ p, s.programmer = some p → fuses = s.fuses.set p.slot.val (tornSlot p.entry n m) p.slot.isLt
          ∧ classify (fuses.get p.slot) = .spoiled)
      ∧ (jobOps = [] → stack = s.stack ∧ buffer = cleared)
      ∧ (∀ i : Fin 8, (buffer.get i).poison = false)
      ∧ (s.stackOk → ∀ a, s.active = some a →
          (∀ c, written a c → Memory.read stack (burstAddr a.bank a.dest c) =
            match checkBurst (s.readBurst a.bank a.source c) with
            | .words d _ => Vector.ofFn fun j => { data := d.get j, check := checkByte (d.get j) }
            | .uncorrectable => Vector.replicate 8 poisonWord)
          ∧ ∀ b r c, ¬ (b = a.bank ∧ r = a.dest ∧ written a c) → Memory.read stack (burstAddr b r c) = s.readBurst b r c))
    ∧ (s.part = .reset → exec .partResetRelease s = .next (fresh .loading s.fuses s.stack cleared s.stackPort))
    ∧ (s.part ≠ .reset → exec .partResetRelease s = .next s)

/-! ### Encodings -/

/-- The frames and the fuse slot, byte by byte. An order's frame (Table 11-1) is read as that order, and no other frame is read as an order:
every wrong length, set high bit, bank of 48 or more, row of 32768 or more and unknown report kind is malformed (R53, R176). A request's
frame (Table 11-3, Table 11-4) is read as that request, and every other frame of three bytes or more as no request; a shorter one is not
read (R177). The messages to the controller (Table 11-2) and the response frame with its result codes (Table 11-5) have the bytes of their
tables. A fuse slot reads as an entry exactly when its seven bytes are those of the entry (Table 11-8, R179, R139), as BLANK exactly when they
are all 0, and as SPOILED otherwise; one whose programming stopped before the completion mark is SPOILED, wherever it stopped (R145). The
shape of a slot whose programming stopped is the model's choice (log 23). -/
def Obligations.EncodingsReadBack : Prop :=
  let two := fun (v : BitVec 16) => ([v.extractLsb' 8 8, v.extractLsb' 0 8] : List Byte)
  let orderBytes := fun (o : Order) => (match o with
    | .bank t b (.opn r) => 0x01 :: byteOf t.val :: byteOf b.val :: twoBytes r.val
    | .bank t b (.read c) => [0x02, byteOf t.val, byteOf b.val, byteOf c.val]
    | .bank t b (.write c v) => 0x03 :: byteOf t.val :: byteOf b.val :: byteOf c.val :: bytesOfBurst v
    | .bank t b .close => [0x04, byteOf t.val, byteOf b.val]
    | .bank t b .refresh => [0x05, byteOf t.val, byteOf b.val]
    | .report t b r k => 0x06 :: byteOf t.val :: byteOf b.val :: (twoBytes r.val ++ [if k = .corrected then 0x01 else 0x02]) : List Byte)
  let requestFields := fun (q : Request) => (match q with
    | .status => (0x01, [])
    | .lookup b r => (0x02, b :: two r)
    | .list b => (0x03, [b])
    | .bank b => (0x04, [b])
    | .steer b r => (0x05, b :: two r)
    | .release b r => (0x06, b :: two r)
    | .seal b r => (0x07, b :: two r)
    | .void b d f => (0x08, [b, d, f])
    | .suspects => (0x09, [])
    | .forget b r => (0x0A, b :: two r)
    | .forgetAll => (0x0B, [])
    | .fuse n => (0x0C, [n])
    | .set i v => (0x0D, i :: two v)
    | .get i => (0x0E, [i])
    | .noticeTop => (0x0F, [])
    | .noticeAck k => (0x10, [k])
    | .mask k m => (0x11, [k, m]) : Byte × List Byte)
  let requestBytes := fun (xn : Byte) (q : Request) =>
    (requestFields q).1 :: xn :: byteOf (requestFields q).2.length :: (requestFields q).2
  let result := fun (r : Result) => (match r with
    | .ok => 0x00
    | .accepted => 0x01
    | .notFound => 0x10
    | .exists => 0x11
    | .noSpare => 0x12
    | .queueFull => 0x13
    | .busy => 0x14
    | .isSealed => 0x16
    | .fuseFull => 0x17
    | .inUse => 0x18
    | .badValue => 0x20
    | .badAddress => 0x21
    | .notReady => 0x22
    | .unknownRequest => 0x23 : Byte)
  let reason := fun (r : Reason) => (match r with
    | .notReady => 0x01
    | .full => 0x02
    | .tagInUse => 0x03
    | .malformed => 0x04
    | .bankOpen => 0x05
    | .noRow => 0x06
    | .revoked => 0x07 : Byte)
  let slot := fun (b1 b2 b3 b4 : Byte) => (#v[0xA5, b1, b2, b3, b4, ~~~(b1 ^^^ b2 ^^^ b3 ^^^ b4), 0x5A] : FuseBytes)
  let slotBytes := fun (e : FuseEntry) => match e with
    | .row b r d => slot (byteOf (0x40 + b.val)) (byteOf d.val) (byteOf (r.val / 256)) (byteOf r.val)
    | .void b d => slot (byteOf (0x80 + b.val)) (byteOf d.val) 0 0
  (∀ v : Burst, (bytesOfBurst v).length = 72 ∧ ∀ i : Fin 8, (bytesOfBurst v)[64 + i.val]? = some (v.get i).check
      ∧ ∀ j : Fin 8, (bytesOfBurst v)[8 * i.val + j.val]? = some ((v.get i).data.extractLsb' (56 - 8 * j.val) 8))
    ∧ (∀ o : Order, orderKind o :: orderRest o = orderBytes o
        ∧ ∀ (k : Byte) (rest : List Byte), parseOrder k rest = some o ↔ k :: rest = orderBytes o)
    ∧ (∀ (q : Request) (xn : Byte), requestFrame xn q = requestBytes xn q
        ∧ ∀ (code : Byte) (fields : List Byte), parseFields code fields = some q ↔ (code, fields) = requestFields q)
    ∧ (∀ code xn n : Byte, ∀ fields : List Byte, ∃ x, parseRequestFrame (code :: xn :: n :: fields) = some (code, xn, x)
        ∧ ∀ q, x = some q ↔ code :: xn :: n :: fields = requestBytes xn q)
    ∧ (∀ f : List Byte, f.length < 3 → parseRequestFrame f = none)
    ∧ (∀ m : OutMsg, m.frame = (match m with
        | .reply t _ .done => [0x81, byteOf t.val]
        | .reply t _ (.data v) => 0x82 :: byteOf t.val :: bytesOfBurst v
        | .reply t _ (.reject r) | .intakeReject t r => [0x83, byteOf t.val, reason r]
        | .ready => [0xC0]
        | .need b => [0xC1, byteOf b.val]
        | .lost b => [0xC2, byteOf b.val] : List Byte))
    ∧ (∀ (xn code : Byte) (r : Result) (contents : List Byte), responseFrame xn code r contents =
        0x00 :: xn :: code :: result r :: byteOf (contents.length / 256) :: byteOf contents.length :: contents)
    ∧ (∀ (e : FuseEntry) (f : FuseBytes), encodeSlot e = slotBytes e ∧ (classify f = .valid e ↔ f = slotBytes e)
        ∧ (classify f = .blank ↔ f = Vector.replicate 7 0))
    ∧ ∀ (e : FuseEntry) (n : Nat) (m : Byte), classify (tornSlot e n m) = .spoiled

/-- The check code (R180). Its columns are the numbers of seven bits with two or more bits set, in ascending order without a gap; check bit j
below 7 is the exclusive-or of the data bits whose column has bit j set, and check bit 7 that of all data bits and check bits 0 to 6. A stored
word is judged by its syndrome and its parity as R180 gives, but for the poison pattern, which is uncorrectable. And so a word with the
check byte generated for it checks clean; with any one of the 72 bits inverted it is corrected to the word; with any two different bits
inverted it is uncorrectable. The check of a burst (R76): uncorrectable when one of its words is, and else its words, corrected where their
check corrects them, with whether one was. -/
def Obligations.CheckCode : Prop :=
  let odd := fun (n : Nat) => decide (n % 2 = 1)
  let ones := fun (y : BitVec 7) => (List.finRange 7).countP fun j => y.getLsbD j.val
  (∃ column : Fin 64 → BitVec 7,
    (∀ i j : Fin 64, i < j → (column i).toNat < (column j).toNat) ∧ (∀ i, 2 ≤ ones (column i))
    ∧ (∀ y : BitVec 7, 2 ≤ ones y → (∃ i, y.toNat ≤ (column i).toNat) → ∃ i, column i = y)
    ∧ (∀ w : BitVec 64,
      (∀ j : Fin 7, (checkByte w).getLsbD j.val =
        odd ((List.finRange 64).countP fun i => w.getLsbD i.val && (column i).getLsbD j.val))
      ∧ (checkByte w).getLsbD 7 = odd (((List.finRange 64).countP fun i => w.getLsbD i.val)
        + (List.finRange 7).countP fun j => (checkByte w).getLsbD j.val))
    ∧ ∀ v : CodeWord, v ≠ { data := 0xFFFFFFFF00000000, check := 0xE7 } →
      let y : BitVec 7 := (v.check ^^^ checkByte v.data).extractLsb' 0 7
      let parity := odd (((List.finRange 64).countP fun i => v.data.getLsbD i.val) + (List.finRange 8).countP fun i => v.check.getLsbD i.val)
      (parity = false → y = 0 → checkWord v = .clean)
      ∧ (parity = false → y ≠ 0 → checkWord v = .uncorrectable)
      ∧ (parity = true → ones y ≤ 1 → checkWord v = .corrected v.data)
      ∧ (∀ i : Fin 64, parity = true → y = column i → checkWord v = .corrected (v.data ^^^ (1#64 <<< i.val)))
      ∧ (parity = true → 2 ≤ ones y → (∀ i, y ≠ column i) → checkWord v = .uncorrectable))
    ∧ (∀ w : BitVec 64,
    (w ≠ 0xFFFFFFFF00000000 → checkWord { data := w, check := checkByte w } = .clean)
    ∧ checkWord { data := 0xFFFFFFFF00000000, check := 0xE7 } = .uncorrectable
    ∧ (∀ i : Fin 72, checkWord (flipBit { data := w, check := checkByte w } i) = .corrected w)
    ∧ ∀ i j : Fin 72, i ≠ j → checkWord (flipBit (flipBit { data := w, check := checkByte w } i) j) = .uncorrectable)
    ∧ ∀ v : Burst,
      (checkBurst v = .uncorrectable ↔ ∃ i : Fin 8, checkWord (v.get i) = .uncorrectable)
      ∧ ∀ (d : Vector (BitVec 64) 8) (c : Bool), checkBurst v = .words d c ↔
          (∀ i : Fin 8, checkWord (v.get i) = .clean ∧ d.get i = (v.get i).data ∨ checkWord (v.get i) = .corrected (d.get i))
            ∧ (c = true ↔ ∃ (i : Fin 8) (w : BitVec 64), checkWord (v.get i) = .corrected w)

/-! ### Invariants of every step -/

/-- Every step keeps the configuration in its ranges with each passover count at most 15 (Table 9-3, R38); the held orders at most 32 with
different tags (R55), at most one unsent intake REJECT with frames waiting only behind one (R59), the suspect list at most 32 records with different keys and counts in range (R124), the migration queue at most 8
jobs (R70); in every bank the tracker without two entries of one row and the target queue at most 4 rows, all distinct (R91, R98); a notice
kind pending exactly when its count, at most 255, is above 0, and ALERT asserted exactly while some kind is pending and unmasked (R170, R173);
and the stack's memory in canonical form (log 5). -/
def Obligations.StepKeepsTheTables : Prop :=
  ∀ s t : State, step s = .next t →
    (s.settingsOk → t.settingsOk) ∧ (s.listsOk → t.listsOk) ∧ (s.intakeOk → t.intakeOk) ∧ (s.trackersOk → t.trackersOk) ∧ (s.noticesOk → t.noticesOk)
      ∧ (s.stackOk → t.stackOk)

/-- Every step keeps every bank unit with its refresh state as `BankState.unitOk` says (R42, R108 to R110, R116,
R117, R30 to R35, R39, R40). That a READ or WRITE is in progress on an OPEN bank alone rests on log 9, and the stage of a target service on log 13. -/
def Obligations.StepKeepsTheBankUnits : Prop := ∀ s t : State, s.unitsOk → step s = .next t → t.unitsOk

/-- Every step keeps the migration engine as `State.engineOk` says: one claim or one bank held while a job is active, none while it is IDLE
(R73, R74, R78, R80); and with it and the steering table the jobs as `State.jobsOk` says: no two jobs, pending or active, name one key, each
names a MIGRATING or RETURNING record, each such record has its job pending or active, the active job's kind and rows are its record's,
its abort is pending only for a move, and an IDLE engine has no pending job (R13, R70, R71, R72). That a SWITCH job never holds the bank between two steps rests on log 12. -/
def Obligations.StepKeepsTheEngine : Prop :=
  ∀ s t : State, step s = .next t → (s.engineOk → t.engineOk) ∧ (s.migrationOk → t.migrationOk)

/-- Every step keeps the steering table and the spare pool as `State.tableOk` says: no two records of one row, and a spare HELD exactly when one
record names it (R3, R4); and with it the seals as `State.sealsOk` says: every SEALED record names a fuse slot whose image is the ROW entry of
its own bank, row and spare, and every slot at or above the pointer is BLANK (R17, R140, R142). -/
def Obligations.StepKeepsTheSteeringTable : Prop :=
  ∀ s t : State, step s = .next t → (s.tableOk → t.tableOk) ∧ (s.steeringOk → t.steeringOk)

/-- Every step keeps every held order in exactly one place, as `State.ordersOk` says: a lane, the report lane or the outbound queue (R56, R57, R66).
That a bank unit that has not yet reported closed has a READ or WRITE in progress rests on logs 9 and 11. -/
def Obligations.StepKeepsEveryHeldOrder : Prop := ∀ s t : State, s.ordersOk → step s = .next t → t.ordersOk

/-- The state right after reset satisfies every invariant. -/
def Obligations.ResetSatisfiesTheInvariants : Prop :=
  State.reset.stackOk ∧ State.reset.noticesOk ∧ State.reset.settingsOk ∧ State.reset.listsOk ∧ State.reset.intakeOk
    ∧ State.reset.trackersOk ∧ State.reset.unitsOk ∧ State.reset.engineOk ∧ State.reset.migrationOk ∧ State.reset.steeringOk ∧ State.reset.ordersOk

end
end

