-- ==== Sys2Proof/Laws/State.lean ====
section
/-!
SUPPORT. What each plain update of the state leaves in each field, true by rfl, and reading one bank after writing one.
-/
namespace Sys2Proof.Machine

/-! ### Vectors -/

/-- Reading a vector at a bounded index is reading it at the index's value. -/
theorem vget_eq {α : Type} {n : Nat} (v : Vector α n) (i : Fin n) : v.get i = v[i.val] := rfl

/-- The element written reads as written. -/
@[simp] theorem vget_set_self {α : Type} {n : Nat} (v : Vector α n) (i : Fin n) (x : α) : (v.set i.val x i.isLt).get i = x := by
  simp only [vget_eq, Vector.getElem_set, if_true]

/-- Reading any element after writing one. -/
theorem vget_set {α : Type} {n : Nat} (v : Vector α n) (i j : Fin n) (x : α) :
    (v.set i.val x i.isLt).get j = if j = i then x else v.get j := by
  simp only [vget_eq, Vector.getElem_set, Fin.ext_iff, eq_comm]

/-- Every other element reads as before. -/
theorem vget_set_of_ne {α : Type} {n : Nat} (v : Vector α n) {i j : Fin n} (x : α) (h : j ≠ i) :
    (v.set i.val x i.isLt).get j = v.get j := by
  rw [vget_set, if_neg h]

/-! ### One bank -/

/-- The bank written reads as written. -/
@[simp] theorem State.bank_setBank_self (s : State) (b : Bank) (x : BankState) : (s.setBank b x).bank b = x :=
  vget_set_self s.banks b x

/-- Every other bank reads as before. -/
theorem State.bank_setBank_of_ne (s : State) {b c : Bank} (x : BankState) (h : c ≠ b) : (s.setBank b x).bank c = s.bank c :=
  vget_set_of_ne s.banks x h

/-- Reading any bank after writing one. -/
theorem State.bank_setBank (s : State) (b c : Bank) (x : BankState) : (s.setBank b x).bank c = if c = b then x else s.bank c := by
  exact vget_set s.banks b c x

/-- Writing a bank twice is writing it last. -/
@[simp] theorem State.setBank_setBank (s : State) (b : Bank) (x y : BankState) : (s.setBank b x).setBank b y = s.setBank b y := by
  simp [State.setBank]

/-- Writing a bank as it stands changes nothing. -/
@[simp] theorem State.setBank_bank (s : State) (b : Bank) : s.setBank b (s.bank b) = s := by
  simp [State.setBank, State.bank, Vector.get]

/-- Two states with equal banks read equal at every bank. -/
theorem State.bank_eq_of_banks_eq {s t : State} (h : t.banks = s.banks) (b : Bank) : t.bank b = s.bank b := by
  simp [State.bank, h]


/-! ### What setBank leaves as it was -/

@[simp] theorem State.setBank_part (s : State) (b : Bank) (x : BankState) :
    (s.setBank b x).part = s.part := rfl
@[simp] theorem State.setBank_timer (s : State) (b : Bank) (x : BankState) :
    (s.setBank b x).timer = s.timer := rfl
@[simp] theorem State.setBank_link (s : State) (b : Bank) (x : BankState) :
    (s.setBank b x).link = s.link := rfl
@[simp] theorem State.setBank_held (s : State) (b : Bank) (x : BankState) :
    (s.setBank b x).held = s.held := rfl
@[simp] theorem State.setBank_reportLane (s : State) (b : Bank) (x : BankState) :
    (s.setBank b x).reportLane = s.reportLane := rfl
@[simp] theorem State.setBank_outbound (s : State) (b : Bank) (x : BankState) :
    (s.setBank b x).outbound = s.outbound := rfl
@[simp] theorem State.setBank_waiting (s : State) (b : Bank) (x : BankState) :
    (s.setBank b x).waiting = s.waiting := rfl
@[simp] theorem State.setBank_migQueue (s : State) (b : Bank) (x : BankState) :
    (s.setBank b x).migQueue = s.migQueue := rfl
@[simp] theorem State.setBank_active (s : State) (b : Bank) (x : BankState) :
    (s.setBank b x).active = s.active := rfl
@[simp] theorem State.setBank_buffer (s : State) (b : Bank) (x : BankState) :
    (s.setBank b x).buffer = s.buffer := rfl
@[simp] theorem State.setBank_suspectList (s : State) (b : Bank) (x : BankState) :
    (s.setBank b x).suspectList = s.suspectList := rfl
@[simp] theorem State.setBank_fuses (s : State) (b : Bank) (x : BankState) :
    (s.setBank b x).fuses = s.fuses := rfl
@[simp] theorem State.setBank_image (s : State) (b : Bank) (x : BankState) :
    (s.setBank b x).image = s.image := rfl
@[simp] theorem State.setBank_nextFree (s : State) (b : Bank) (x : BankState) :
    (s.setBank b x).nextFree = s.nextFree := rfl
@[simp] theorem State.setBank_programmer (s : State) (b : Bank) (x : BankState) :
    (s.setBank b x).programmer = s.programmer := rfl
@[simp] theorem State.setBank_summary (s : State) (b : Bank) (x : BankState) :
    (s.setBank b x).summary = s.summary := rfl
@[simp] theorem State.setBank_loadPos (s : State) (b : Bank) (x : BankState) :
    (s.setBank b x).loadPos = s.loadPos := rfl
@[simp] theorem State.setBank_exchange (s : State) (b : Bank) (x : BankState) :
    (s.setBank b x).exchange = s.exchange := rfl
@[simp] theorem State.setBank_lastChanging (s : State) (b : Bank) (x : BankState) :
    (s.setBank b x).lastChanging = s.lastChanging := rfl
@[simp] theorem State.setBank_settings (s : State) (b : Bank) (x : BankState) :
    (s.setBank b x).settings = s.settings := rfl
@[simp] theorem State.setBank_notices (s : State) (b : Bank) (x : BankState) :
    (s.setBank b x).notices = s.notices := rfl
@[simp] theorem State.setBank_alert (s : State) (b : Bank) (x : BankState) :
    (s.setBank b x).alert = s.alert := rfl
@[simp] theorem State.setBank_stack (s : State) (b : Bank) (x : BankState) :
    (s.setBank b x).stack = s.stack := rfl
@[simp] theorem State.setBank_stackPort (s : State) (b : Bank) (x : BankState) :
    (s.setBank b x).stackPort = s.stackPort := rfl
@[simp] theorem State.setBank_linkOut (s : State) (b : Bank) (x : BankState) :
    (s.setBank b x).linkOut = s.linkOut := rfl
@[simp] theorem State.setBank_servicePortOut (s : State) (b : Bank) (x : BankState) :
    (s.setBank b x).servicePortOut = s.servicePortOut := rfl
@[simp] theorem State.setBank_freeCount (s : State) (b : Bank) (x : BankState) :
    (s.setBank b x).freeCount = s.freeCount := rfl
@[simp] theorem State.setBank_pending (s : State) (b : Bank) (x : BankState) :
    (s.setBank b x).pending = s.pending := rfl

/-! ### What port leaves as it was -/

@[simp] theorem State.port_part (s : State) (ops : List StackOp) :
    (s.port ops).part = s.part := rfl
@[simp] theorem State.port_timer (s : State) (ops : List StackOp) :
    (s.port ops).timer = s.timer := rfl
@[simp] theorem State.port_banks (s : State) (ops : List StackOp) :
    (s.port ops).banks = s.banks := rfl
@[simp] theorem State.port_link (s : State) (ops : List StackOp) :
    (s.port ops).link = s.link := rfl
@[simp] theorem State.port_held (s : State) (ops : List StackOp) :
    (s.port ops).held = s.held := rfl
@[simp] theorem State.port_reportLane (s : State) (ops : List StackOp) :
    (s.port ops).reportLane = s.reportLane := rfl
@[simp] theorem State.port_outbound (s : State) (ops : List StackOp) :
    (s.port ops).outbound = s.outbound := rfl
@[simp] theorem State.port_waiting (s : State) (ops : List StackOp) :
    (s.port ops).waiting = s.waiting := rfl
@[simp] theorem State.port_migQueue (s : State) (ops : List StackOp) :
    (s.port ops).migQueue = s.migQueue := rfl
@[simp] theorem State.port_active (s : State) (ops : List StackOp) :
    (s.port ops).active = s.active := rfl
@[simp] theorem State.port_buffer (s : State) (ops : List StackOp) :
    (s.port ops).buffer = s.buffer := rfl
@[simp] theorem State.port_suspectList (s : State) (ops : List StackOp) :
    (s.port ops).suspectList = s.suspectList := rfl
@[simp] theorem State.port_fuses (s : State) (ops : List StackOp) :
    (s.port ops).fuses = s.fuses := rfl
@[simp] theorem State.port_image (s : State) (ops : List StackOp) :
    (s.port ops).image = s.image := rfl
@[simp] theorem State.port_nextFree (s : State) (ops : List StackOp) :
    (s.port ops).nextFree = s.nextFree := rfl
@[simp] theorem State.port_programmer (s : State) (ops : List StackOp) :
    (s.port ops).programmer = s.programmer := rfl
@[simp] theorem State.port_summary (s : State) (ops : List StackOp) :
    (s.port ops).summary = s.summary := rfl
@[simp] theorem State.port_loadPos (s : State) (ops : List StackOp) :
    (s.port ops).loadPos = s.loadPos := rfl
@[simp] theorem State.port_exchange (s : State) (ops : List StackOp) :
    (s.port ops).exchange = s.exchange := rfl
@[simp] theorem State.port_lastChanging (s : State) (ops : List StackOp) :
    (s.port ops).lastChanging = s.lastChanging := rfl
@[simp] theorem State.port_settings (s : State) (ops : List StackOp) :
    (s.port ops).settings = s.settings := rfl
@[simp] theorem State.port_notices (s : State) (ops : List StackOp) :
    (s.port ops).notices = s.notices := rfl
@[simp] theorem State.port_alert (s : State) (ops : List StackOp) :
    (s.port ops).alert = s.alert := rfl
@[simp] theorem State.port_stack (s : State) (ops : List StackOp) :
    (s.port ops).stack = s.stack := rfl
@[simp] theorem State.port_linkOut (s : State) (ops : List StackOp) :
    (s.port ops).linkOut = s.linkOut := rfl
@[simp] theorem State.port_servicePortOut (s : State) (ops : List StackOp) :
    (s.port ops).servicePortOut = s.servicePortOut := rfl
@[simp] theorem State.port_freeCount (s : State) (ops : List StackOp) :
    (s.port ops).freeCount = s.freeCount := rfl
@[simp] theorem State.port_pending (s : State) (ops : List StackOp) :
    (s.port ops).pending = s.pending := rfl
@[simp] theorem State.port_bank (s : State) (ops : List StackOp) (b' : Bank) :
    (s.port ops).bank b' = s.bank b' := rfl

/-! ### What writeBurst leaves as it was -/

@[simp] theorem State.writeBurst_part (s : State) (b : Bank) (p : PRow) (c : Col) (v : Burst) :
    (s.writeBurst b p c v).part = s.part := rfl
@[simp] theorem State.writeBurst_timer (s : State) (b : Bank) (p : PRow) (c : Col) (v : Burst) :
    (s.writeBurst b p c v).timer = s.timer := rfl
@[simp] theorem State.writeBurst_banks (s : State) (b : Bank) (p : PRow) (c : Col) (v : Burst) :
    (s.writeBurst b p c v).banks = s.banks := rfl
@[simp] theorem State.writeBurst_link (s : State) (b : Bank) (p : PRow) (c : Col) (v : Burst) :
    (s.writeBurst b p c v).link = s.link := rfl
@[simp] theorem State.writeBurst_held (s : State) (b : Bank) (p : PRow) (c : Col) (v : Burst) :
    (s.writeBurst b p c v).held = s.held := rfl
@[simp] theorem State.writeBurst_reportLane (s : State) (b : Bank) (p : PRow) (c : Col) (v : Burst) :
    (s.writeBurst b p c v).reportLane = s.reportLane := rfl
@[simp] theorem State.writeBurst_outbound (s : State) (b : Bank) (p : PRow) (c : Col) (v : Burst) :
    (s.writeBurst b p c v).outbound = s.outbound := rfl
@[simp] theorem State.writeBurst_waiting (s : State) (b : Bank) (p : PRow) (c : Col) (v : Burst) :
    (s.writeBurst b p c v).waiting = s.waiting := rfl
@[simp] theorem State.writeBurst_migQueue (s : State) (b : Bank) (p : PRow) (c : Col) (v : Burst) :
    (s.writeBurst b p c v).migQueue = s.migQueue := rfl
@[simp] theorem State.writeBurst_active (s : State) (b : Bank) (p : PRow) (c : Col) (v : Burst) :
    (s.writeBurst b p c v).active = s.active := rfl
@[simp] theorem State.writeBurst_buffer (s : State) (b : Bank) (p : PRow) (c : Col) (v : Burst) :
    (s.writeBurst b p c v).buffer = s.buffer := rfl
@[simp] theorem State.writeBurst_suspectList (s : State) (b : Bank) (p : PRow) (c : Col) (v : Burst) :
    (s.writeBurst b p c v).suspectList = s.suspectList := rfl
@[simp] theorem State.writeBurst_fuses (s : State) (b : Bank) (p : PRow) (c : Col) (v : Burst) :
    (s.writeBurst b p c v).fuses = s.fuses := rfl
@[simp] theorem State.writeBurst_image (s : State) (b : Bank) (p : PRow) (c : Col) (v : Burst) :
    (s.writeBurst b p c v).image = s.image := rfl
@[simp] theorem State.writeBurst_nextFree (s : State) (b : Bank) (p : PRow) (c : Col) (v : Burst) :
    (s.writeBurst b p c v).nextFree = s.nextFree := rfl
@[simp] theorem State.writeBurst_programmer (s : State) (b : Bank) (p : PRow) (c : Col) (v : Burst) :
    (s.writeBurst b p c v).programmer = s.programmer := rfl
@[simp] theorem State.writeBurst_summary (s : State) (b : Bank) (p : PRow) (c : Col) (v : Burst) :
    (s.writeBurst b p c v).summary = s.summary := rfl
@[simp] theorem State.writeBurst_loadPos (s : State) (b : Bank) (p : PRow) (c : Col) (v : Burst) :
    (s.writeBurst b p c v).loadPos = s.loadPos := rfl
@[simp] theorem State.writeBurst_exchange (s : State) (b : Bank) (p : PRow) (c : Col) (v : Burst) :
    (s.writeBurst b p c v).exchange = s.exchange := rfl
@[simp] theorem State.writeBurst_lastChanging (s : State) (b : Bank) (p : PRow) (c : Col) (v : Burst) :
    (s.writeBurst b p c v).lastChanging = s.lastChanging := rfl
@[simp] theorem State.writeBurst_settings (s : State) (b : Bank) (p : PRow) (c : Col) (v : Burst) :
    (s.writeBurst b p c v).settings = s.settings := rfl
@[simp] theorem State.writeBurst_notices (s : State) (b : Bank) (p : PRow) (c : Col) (v : Burst) :
    (s.writeBurst b p c v).notices = s.notices := rfl
@[simp] theorem State.writeBurst_alert (s : State) (b : Bank) (p : PRow) (c : Col) (v : Burst) :
    (s.writeBurst b p c v).alert = s.alert := rfl
@[simp] theorem State.writeBurst_stackPort (s : State) (b : Bank) (p : PRow) (c : Col) (v : Burst) :
    (s.writeBurst b p c v).stackPort = s.stackPort := rfl
@[simp] theorem State.writeBurst_linkOut (s : State) (b : Bank) (p : PRow) (c : Col) (v : Burst) :
    (s.writeBurst b p c v).linkOut = s.linkOut := rfl
@[simp] theorem State.writeBurst_servicePortOut (s : State) (b : Bank) (p : PRow) (c : Col) (v : Burst) :
    (s.writeBurst b p c v).servicePortOut = s.servicePortOut := rfl
@[simp] theorem State.writeBurst_freeCount (s : State) (b : Bank) (p : PRow) (c : Col) (v : Burst) :
    (s.writeBurst b p c v).freeCount = s.freeCount := rfl
@[simp] theorem State.writeBurst_pending (s : State) (b : Bank) (p : PRow) (c : Col) (v : Burst) :
    (s.writeBurst b p c v).pending = s.pending := rfl
@[simp] theorem State.writeBurst_bank (s : State) (b : Bank) (p : PRow) (c : Col) (v : Burst) (b' : Bank) :
    (s.writeBurst b p c v).bank b' = s.bank b' := rfl

/-! ### What setNotice leaves as it was -/

@[simp] theorem State.setNotice_part (s : State) (k : NoticeKind) (e : NoticeEntry) :
    (s.setNotice k e).part = s.part := rfl
@[simp] theorem State.setNotice_timer (s : State) (k : NoticeKind) (e : NoticeEntry) :
    (s.setNotice k e).timer = s.timer := rfl
@[simp] theorem State.setNotice_banks (s : State) (k : NoticeKind) (e : NoticeEntry) :
    (s.setNotice k e).banks = s.banks := rfl
@[simp] theorem State.setNotice_link (s : State) (k : NoticeKind) (e : NoticeEntry) :
    (s.setNotice k e).link = s.link := rfl
@[simp] theorem State.setNotice_held (s : State) (k : NoticeKind) (e : NoticeEntry) :
    (s.setNotice k e).held = s.held := rfl
@[simp] theorem State.setNotice_reportLane (s : State) (k : NoticeKind) (e : NoticeEntry) :
    (s.setNotice k e).reportLane = s.reportLane := rfl
@[simp] theorem State.setNotice_outbound (s : State) (k : NoticeKind) (e : NoticeEntry) :
    (s.setNotice k e).outbound = s.outbound := rfl
@[simp] theorem State.setNotice_waiting (s : State) (k : NoticeKind) (e : NoticeEntry) :
    (s.setNotice k e).waiting = s.waiting := rfl
@[simp] theorem State.setNotice_migQueue (s : State) (k : NoticeKind) (e : NoticeEntry) :
    (s.setNotice k e).migQueue = s.migQueue := rfl
@[simp] theorem State.setNotice_active (s : State) (k : NoticeKind) (e : NoticeEntry) :
    (s.setNotice k e).active = s.active := rfl
@[simp] theorem State.setNotice_buffer (s : State) (k : NoticeKind) (e : NoticeEntry) :
    (s.setNotice k e).buffer = s.buffer := rfl
@[simp] theorem State.setNotice_suspectList (s : State) (k : NoticeKind) (e : NoticeEntry) :
    (s.setNotice k e).suspectList = s.suspectList := rfl
@[simp] theorem State.setNotice_fuses (s : State) (k : NoticeKind) (e : NoticeEntry) :
    (s.setNotice k e).fuses = s.fuses := rfl
@[simp] theorem State.setNotice_image (s : State) (k : NoticeKind) (e : NoticeEntry) :
    (s.setNotice k e).image = s.image := rfl
@[simp] theorem State.setNotice_nextFree (s : State) (k : NoticeKind) (e : NoticeEntry) :
    (s.setNotice k e).nextFree = s.nextFree := rfl
@[simp] theorem State.setNotice_programmer (s : State) (k : NoticeKind) (e : NoticeEntry) :
    (s.setNotice k e).programmer = s.programmer := rfl
@[simp] theorem State.setNotice_summary (s : State) (k : NoticeKind) (e : NoticeEntry) :
    (s.setNotice k e).summary = s.summary := rfl
@[simp] theorem State.setNotice_loadPos (s : State) (k : NoticeKind) (e : NoticeEntry) :
    (s.setNotice k e).loadPos = s.loadPos := rfl
@[simp] theorem State.setNotice_exchange (s : State) (k : NoticeKind) (e : NoticeEntry) :
    (s.setNotice k e).exchange = s.exchange := rfl
@[simp] theorem State.setNotice_lastChanging (s : State) (k : NoticeKind) (e : NoticeEntry) :
    (s.setNotice k e).lastChanging = s.lastChanging := rfl
@[simp] theorem State.setNotice_settings (s : State) (k : NoticeKind) (e : NoticeEntry) :
    (s.setNotice k e).settings = s.settings := rfl
@[simp] theorem State.setNotice_stack (s : State) (k : NoticeKind) (e : NoticeEntry) :
    (s.setNotice k e).stack = s.stack := rfl
@[simp] theorem State.setNotice_stackPort (s : State) (k : NoticeKind) (e : NoticeEntry) :
    (s.setNotice k e).stackPort = s.stackPort := rfl
@[simp] theorem State.setNotice_linkOut (s : State) (k : NoticeKind) (e : NoticeEntry) :
    (s.setNotice k e).linkOut = s.linkOut := rfl
@[simp] theorem State.setNotice_servicePortOut (s : State) (k : NoticeKind) (e : NoticeEntry) :
    (s.setNotice k e).servicePortOut = s.servicePortOut := rfl
@[simp] theorem State.setNotice_freeCount (s : State) (k : NoticeKind) (e : NoticeEntry) :
    (s.setNotice k e).freeCount = s.freeCount := rfl
@[simp] theorem State.setNotice_pending (s : State) (k : NoticeKind) (e : NoticeEntry) :
    (s.setNotice k e).pending = s.pending := rfl
@[simp] theorem State.setNotice_bank (s : State) (k : NoticeKind) (e : NoticeEntry) (b' : Bank) :
    (s.setNotice k e).bank b' = s.bank b' := rfl

/-! ### What raise leaves as it was -/

@[simp] theorem State.raise_part (s : State) (k : NoticeKind) (b : Option Bank) (r : Option LRow) (d : Detail) :
    (s.raise k b r d).part = s.part := rfl
@[simp] theorem State.raise_timer (s : State) (k : NoticeKind) (b : Option Bank) (r : Option LRow) (d : Detail) :
    (s.raise k b r d).timer = s.timer := rfl
@[simp] theorem State.raise_banks (s : State) (k : NoticeKind) (b : Option Bank) (r : Option LRow) (d : Detail) :
    (s.raise k b r d).banks = s.banks := rfl
@[simp] theorem State.raise_link (s : State) (k : NoticeKind) (b : Option Bank) (r : Option LRow) (d : Detail) :
    (s.raise k b r d).link = s.link := rfl
@[simp] theorem State.raise_held (s : State) (k : NoticeKind) (b : Option Bank) (r : Option LRow) (d : Detail) :
    (s.raise k b r d).held = s.held := rfl
@[simp] theorem State.raise_reportLane (s : State) (k : NoticeKind) (b : Option Bank) (r : Option LRow) (d : Detail) :
    (s.raise k b r d).reportLane = s.reportLane := rfl
@[simp] theorem State.raise_outbound (s : State) (k : NoticeKind) (b : Option Bank) (r : Option LRow) (d : Detail) :
    (s.raise k b r d).outbound = s.outbound := rfl
@[simp] theorem State.raise_waiting (s : State) (k : NoticeKind) (b : Option Bank) (r : Option LRow) (d : Detail) :
    (s.raise k b r d).waiting = s.waiting := rfl
@[simp] theorem State.raise_migQueue (s : State) (k : NoticeKind) (b : Option Bank) (r : Option LRow) (d : Detail) :
    (s.raise k b r d).migQueue = s.migQueue := rfl
@[simp] theorem State.raise_active (s : State) (k : NoticeKind) (b : Option Bank) (r : Option LRow) (d : Detail) :
    (s.raise k b r d).active = s.active := rfl
@[simp] theorem State.raise_buffer (s : State) (k : NoticeKind) (b : Option Bank) (r : Option LRow) (d : Detail) :
    (s.raise k b r d).buffer = s.buffer := rfl
@[simp] theorem State.raise_suspectList (s : State) (k : NoticeKind) (b : Option Bank) (r : Option LRow) (d : Detail) :
    (s.raise k b r d).suspectList = s.suspectList := rfl
@[simp] theorem State.raise_fuses (s : State) (k : NoticeKind) (b : Option Bank) (r : Option LRow) (d : Detail) :
    (s.raise k b r d).fuses = s.fuses := rfl
@[simp] theorem State.raise_image (s : State) (k : NoticeKind) (b : Option Bank) (r : Option LRow) (d : Detail) :
    (s.raise k b r d).image = s.image := rfl
@[simp] theorem State.raise_nextFree (s : State) (k : NoticeKind) (b : Option Bank) (r : Option LRow) (d : Detail) :
    (s.raise k b r d).nextFree = s.nextFree := rfl
@[simp] theorem State.raise_programmer (s : State) (k : NoticeKind) (b : Option Bank) (r : Option LRow) (d : Detail) :
    (s.raise k b r d).programmer = s.programmer := rfl
@[simp] theorem State.raise_summary (s : State) (k : NoticeKind) (b : Option Bank) (r : Option LRow) (d : Detail) :
    (s.raise k b r d).summary = s.summary := rfl
@[simp] theorem State.raise_loadPos (s : State) (k : NoticeKind) (b : Option Bank) (r : Option LRow) (d : Detail) :
    (s.raise k b r d).loadPos = s.loadPos := rfl
@[simp] theorem State.raise_exchange (s : State) (k : NoticeKind) (b : Option Bank) (r : Option LRow) (d : Detail) :
    (s.raise k b r d).exchange = s.exchange := rfl
@[simp] theorem State.raise_lastChanging (s : State) (k : NoticeKind) (b : Option Bank) (r : Option LRow) (d : Detail) :
    (s.raise k b r d).lastChanging = s.lastChanging := rfl
@[simp] theorem State.raise_settings (s : State) (k : NoticeKind) (b : Option Bank) (r : Option LRow) (d : Detail) :
    (s.raise k b r d).settings = s.settings := rfl
@[simp] theorem State.raise_stack (s : State) (k : NoticeKind) (b : Option Bank) (r : Option LRow) (d : Detail) :
    (s.raise k b r d).stack = s.stack := rfl
@[simp] theorem State.raise_stackPort (s : State) (k : NoticeKind) (b : Option Bank) (r : Option LRow) (d : Detail) :
    (s.raise k b r d).stackPort = s.stackPort := rfl
@[simp] theorem State.raise_linkOut (s : State) (k : NoticeKind) (b : Option Bank) (r : Option LRow) (d : Detail) :
    (s.raise k b r d).linkOut = s.linkOut := rfl
@[simp] theorem State.raise_servicePortOut (s : State) (k : NoticeKind) (b : Option Bank) (r : Option LRow) (d : Detail) :
    (s.raise k b r d).servicePortOut = s.servicePortOut := rfl
@[simp] theorem State.raise_freeCount (s : State) (k : NoticeKind) (b : Option Bank) (r : Option LRow) (d : Detail) :
    (s.raise k b r d).freeCount = s.freeCount := rfl
@[simp] theorem State.raise_pending (s : State) (k : NoticeKind) (b : Option Bank) (r : Option LRow) (d : Detail) :
    (s.raise k b r d).pending = s.pending := rfl
@[simp] theorem State.raise_bank (s : State) (k : NoticeKind) (b : Option Bank) (r : Option LRow) (d : Detail) (b' : Bank) :
    (s.raise k b r d).bank b' = s.bank b' := rfl

/-! ### What respond leaves as it was -/

@[simp] theorem State.respond_part (s : State) (late : Bool) (request : List Byte) (xn code : Byte) (r : Result) (contents : List Byte) :
    (s.respond late request xn code r contents).part = s.part := by cases late <;> rfl
@[simp] theorem State.respond_timer (s : State) (late : Bool) (request : List Byte) (xn code : Byte) (r : Result) (contents : List Byte) :
    (s.respond late request xn code r contents).timer = s.timer := by cases late <;> rfl
@[simp] theorem State.respond_banks (s : State) (late : Bool) (request : List Byte) (xn code : Byte) (r : Result) (contents : List Byte) :
    (s.respond late request xn code r contents).banks = s.banks := by cases late <;> rfl
@[simp] theorem State.respond_link (s : State) (late : Bool) (request : List Byte) (xn code : Byte) (r : Result) (contents : List Byte) :
    (s.respond late request xn code r contents).link = s.link := by cases late <;> rfl
@[simp] theorem State.respond_held (s : State) (late : Bool) (request : List Byte) (xn code : Byte) (r : Result) (contents : List Byte) :
    (s.respond late request xn code r contents).held = s.held := by cases late <;> rfl
@[simp] theorem State.respond_reportLane (s : State) (late : Bool) (request : List Byte) (xn code : Byte) (r : Result) (contents : List Byte) :
    (s.respond late request xn code r contents).reportLane = s.reportLane := by cases late <;> rfl
@[simp] theorem State.respond_outbound (s : State) (late : Bool) (request : List Byte) (xn code : Byte) (r : Result) (contents : List Byte) :
    (s.respond late request xn code r contents).outbound = s.outbound := by cases late <;> rfl
@[simp] theorem State.respond_waiting (s : State) (late : Bool) (request : List Byte) (xn code : Byte) (r : Result) (contents : List Byte) :
    (s.respond late request xn code r contents).waiting = s.waiting := by cases late <;> rfl
@[simp] theorem State.respond_migQueue (s : State) (late : Bool) (request : List Byte) (xn code : Byte) (r : Result) (contents : List Byte) :
    (s.respond late request xn code r contents).migQueue = s.migQueue := by cases late <;> rfl
@[simp] theorem State.respond_active (s : State) (late : Bool) (request : List Byte) (xn code : Byte) (r : Result) (contents : List Byte) :
    (s.respond late request xn code r contents).active = s.active := by cases late <;> rfl
@[simp] theorem State.respond_buffer (s : State) (late : Bool) (request : List Byte) (xn code : Byte) (r : Result) (contents : List Byte) :
    (s.respond late request xn code r contents).buffer = s.buffer := by cases late <;> rfl
@[simp] theorem State.respond_suspectList (s : State) (late : Bool) (request : List Byte) (xn code : Byte) (r : Result) (contents : List Byte) :
    (s.respond late request xn code r contents).suspectList = s.suspectList := by cases late <;> rfl
@[simp] theorem State.respond_fuses (s : State) (late : Bool) (request : List Byte) (xn code : Byte) (r : Result) (contents : List Byte) :
    (s.respond late request xn code r contents).fuses = s.fuses := by cases late <;> rfl
@[simp] theorem State.respond_image (s : State) (late : Bool) (request : List Byte) (xn code : Byte) (r : Result) (contents : List Byte) :
    (s.respond late request xn code r contents).image = s.image := by cases late <;> rfl
@[simp] theorem State.respond_nextFree (s : State) (late : Bool) (request : List Byte) (xn code : Byte) (r : Result) (contents : List Byte) :
    (s.respond late request xn code r contents).nextFree = s.nextFree := by cases late <;> rfl
@[simp] theorem State.respond_programmer (s : State) (late : Bool) (request : List Byte) (xn code : Byte) (r : Result) (contents : List Byte) :
    (s.respond late request xn code r contents).programmer = s.programmer := by cases late <;> rfl
@[simp] theorem State.respond_summary (s : State) (late : Bool) (request : List Byte) (xn code : Byte) (r : Result) (contents : List Byte) :
    (s.respond late request xn code r contents).summary = s.summary := by cases late <;> rfl
@[simp] theorem State.respond_loadPos (s : State) (late : Bool) (request : List Byte) (xn code : Byte) (r : Result) (contents : List Byte) :
    (s.respond late request xn code r contents).loadPos = s.loadPos := by cases late <;> rfl
@[simp] theorem State.respond_lastChanging (s : State) (late : Bool) (request : List Byte) (xn code : Byte) (r : Result) (contents : List Byte) :
    (s.respond late request xn code r contents).lastChanging = s.lastChanging := by cases late <;> rfl
@[simp] theorem State.respond_settings (s : State) (late : Bool) (request : List Byte) (xn code : Byte) (r : Result) (contents : List Byte) :
    (s.respond late request xn code r contents).settings = s.settings := by cases late <;> rfl
@[simp] theorem State.respond_notices (s : State) (late : Bool) (request : List Byte) (xn code : Byte) (r : Result) (contents : List Byte) :
    (s.respond late request xn code r contents).notices = s.notices := by cases late <;> rfl
@[simp] theorem State.respond_alert (s : State) (late : Bool) (request : List Byte) (xn code : Byte) (r : Result) (contents : List Byte) :
    (s.respond late request xn code r contents).alert = s.alert := by cases late <;> rfl
@[simp] theorem State.respond_stack (s : State) (late : Bool) (request : List Byte) (xn code : Byte) (r : Result) (contents : List Byte) :
    (s.respond late request xn code r contents).stack = s.stack := by cases late <;> rfl
@[simp] theorem State.respond_stackPort (s : State) (late : Bool) (request : List Byte) (xn code : Byte) (r : Result) (contents : List Byte) :
    (s.respond late request xn code r contents).stackPort = s.stackPort := by cases late <;> rfl
@[simp] theorem State.respond_linkOut (s : State) (late : Bool) (request : List Byte) (xn code : Byte) (r : Result) (contents : List Byte) :
    (s.respond late request xn code r contents).linkOut = s.linkOut := by cases late <;> rfl
@[simp] theorem State.respond_servicePortOut (s : State) (late : Bool) (request : List Byte) (xn code : Byte) (r : Result) (contents : List Byte) :
    (s.respond late request xn code r contents).servicePortOut = s.servicePortOut := by cases late <;> rfl
@[simp] theorem State.respond_freeCount (s : State) (late : Bool) (request : List Byte) (xn code : Byte) (r : Result) (contents : List Byte) :
    (s.respond late request xn code r contents).freeCount = s.freeCount := by cases late <;> rfl
@[simp] theorem State.respond_pending (s : State) (late : Bool) (request : List Byte) (xn code : Byte) (r : Result) (contents : List Byte) :
    (s.respond late request xn code r contents).pending = s.pending := by cases late <;> rfl
@[simp] theorem State.respond_bank (s : State) (late : Bool) (request : List Byte) (xn code : Byte) (r : Result) (contents : List Byte) (b' : Bank) :
    (s.respond late request xn code r contents).bank b' = s.bank b' := by cases late <;> rfl

/-! ### The exchange -/

/-- A request answered: the port is SERVING while its response is late, and otherwise ANSWERED. -/
theorem State.respond_eq (late : Bool) (request : List Byte) (xn code : Byte) (r : Result) (contents : List Byte) (s : State) :
    s.respond late request xn code r contents = { s with
      exchange := if late then .serving request (responseFrame xn code r contents)
        else .answered (responseFrame xn code r contents) } := by
  cases late <;> rfl

/-- Outside SERVING no response becomes ready. -/
theorem State.readyUnless_of_not_serving {s : State} (late : Bool) (h : ∀ q f, s.exchange ≠ .serving q f) : s.readyUnless late = s := by
  cases late
  · unfold State.readyUnless State.responseReady
    split
    · rfl
    · split
      · exact absurd ‹_› (h _ _)
      · rfl
      · rfl
  · rfl

/-- In SERVING the response becomes ready unless it is late. -/
theorem State.readyUnless_of_serving {s : State} {q f : List Byte} (late : Bool) (h : s.exchange = .serving q f) :
    s.readyUnless late = { s with exchange := if late then .serving q f else .answered f } := by
  cases late
  · simp only [State.readyUnless, State.responseReady, h, Bool.false_eq_true, if_false]
  · obtain ⟨⟩ := s; cases h; rfl


end Sys2Proof.Machine
end

