-- ==== Sys2Proof/Laws/Frame.lean ====
section
/-!
SUPPORT. The frames of the shared operations: for each, one lemma that names every field of the state it can change. `congrArg` of a
field over such a lemma is that the operation leaves the field as it was.
-/
namespace Sys2Proof.Machine

/-! ### Messages to the intake -/

theorem State.handReply_frame (tag : Tag) (source : Option Bank) (body : ReplyBody) (s : State) :
    s.handReply tag source body = { s with outbound := (s.handReply tag source body).outbound } := by
  unfold State.handReply; split <;> rfl

theorem State.handNeed_frame (b : Bank) (s : State) :
    s.handNeed b = { s with outbound := (s.handNeed b).outbound } := by
  unfold State.handNeed; split <;> rfl

theorem State.handLost_frame (b : Bank) (s : State) :
    s.handLost b = { s with outbound := (s.handLost b).outbound } := by
  unfold State.handLost; split <;> rfl

/-! ### The tracker -/

theorem State.track_frame (b : Bank) (p : PRow) (s : State) :
    s.track b p = { s with banks := (s.track b p).banks, notices := (s.track b p).notices, alert := (s.track b p).alert } := by
  unfold State.track; dsimp only; split <;> rfl

theorem State.activate_frame (b : Bank) (p : PRow) (s : State) :
    s.activate b p = { s with
      banks := (s.activate b p).banks, notices := (s.activate b p).notices, alert := (s.activate b p).alert,
      stackPort := (s.activate b p).stackPort } := by
  unfold State.activate; rw [State.track_frame]; rfl

/-! ### The link's return to UP, and the bank units -/

theorem State.nameNeed_frame (b : Bank) (s : State) :
    s.nameNeed b = { s with banks := (s.nameNeed b).banks, outbound := (s.nameNeed b).outbound } := by
  unfold State.nameNeed; split
  · rw [State.handNeed_frame]; rfl
  · rfl

theorem State.nameNeeds_frame (l : List Bank) (s : State) : l.foldl (fun s b => s.nameNeed b) s =
    { s with banks := (l.foldl (fun s b => s.nameNeed b) s).banks, outbound := (l.foldl (fun s b => s.nameNeed b) s).outbound } := by
  induction l generalizing s with
  | nil => rfl
  | cons b l ih => rw [List.foldl_cons, ih, State.nameNeed_frame]

theorem State.linkUp_frame (s : State) :
    s.linkUp = { s with banks := (s.linkUp).banks, link := (s.linkUp).link, outbound := (s.linkUp).outbound } := by
  unfold State.linkUp; rw [State.nameNeeds_frame]

theorem State.tryLinkUp_frame (s : State) :
    s.tryLinkUp = { s with banks := (s.tryLinkUp).banks, link := (s.tryLinkUp).link, outbound := (s.tryLinkUp).outbound } := by
  unfold State.tryLinkUp; split
  · rw [State.linkUp_frame]
  · rfl

theorem State.revoke_frame (b : Bank) (r : LRow) (p : PRow) (s : State) :
    s.revoke b r p = { s with
      banks := (s.revoke b r p).banks, outbound := (s.revoke b r p).outbound, notices := (s.revoke b r p).notices,
      alert := (s.revoke b r p).alert, stackPort := (s.revoke b r p).stackPort } := by
  unfold State.revoke; dsimp only; rw [State.handLost_frame]; rfl

theorem State.revokeIfForced_frame (b : Bank) (s : State) :
    s.revokeIfForced b = { s with
      banks := (s.revokeIfForced b).banks, outbound := (s.revokeIfForced b).outbound, notices := (s.revokeIfForced b).notices,
      alert := (s.revokeIfForced b).alert, stackPort := (s.revokeIfForced b).stackPort } := by
  unfold State.revokeIfForced; split
  · rw [State.revoke_frame]
  · rfl

theorem State.closeForReset_frame (b : Bank) (s : State) :
    s.closeForReset b = { s with banks := (s.closeForReset b).banks, stackPort := (s.closeForReset b).stackPort } := by
  unfold State.closeForReset; split <;> rfl

theorem State.settle_frame (b : Bank) (s : State) :
    s.settle b = { s with
      banks := (s.settle b).banks, link := (s.settle b).link, outbound := (s.settle b).outbound, notices := (s.settle b).notices,
      alert := (s.settle b).alert, stackPort := (s.settle b).stackPort } := by
  unfold State.settle; split
  · rw [State.tryLinkUp_frame, State.closeForReset_frame]
  · rw [State.revokeIfForced_frame]

theorem State.endOrder_frame (b : Bank) (body : ReplyBody) (s : State) :
    s.endOrder b body = { s with
      banks := (s.endOrder b body).banks, link := (s.endOrder b body).link, outbound := (s.endOrder b body).outbound,
      notices := (s.endOrder b body).notices, alert := (s.endOrder b body).alert, stackPort := (s.endOrder b body).stackPort } := by
  unfold State.endOrder; split
  · rfl
  · rw [State.settle_frame, State.handReply_frame]; rfl

theorem State.grantForced_frame (b : Bank) (s : State) :
    s.grantForced b = { s with banks := (s.grantForced b).banks } := by
  rfl

theorem State.serveOpen_frame (b : Bank) (r : LRow) (s : State) :
    s.serveOpen b r = { s with
      banks := (s.serveOpen b r).banks, link := (s.serveOpen b r).link, outbound := (s.serveOpen b r).outbound,
      notices := (s.serveOpen b r).notices, alert := (s.serveOpen b r).alert, stackPort := (s.serveOpen b r).stackPort } := by
  unfold State.serveOpen; dsimp only; rw [State.endOrder_frame, State.activate_frame]; rfl

theorem State.grantLane_frame (b : Bank) (op : BankOp) (w : Bool) (s : State) :
    s.grantLane b op w = { s with
      banks := (s.grantLane b op w).banks, link := (s.grantLane b op w).link, outbound := (s.grantLane b op w).outbound,
      notices := (s.grantLane b op w).notices, alert := (s.grantLane b op w).alert, stackPort := (s.grantLane b op w).stackPort } := by
  unfold State.grantLane; dsimp only; split <;> first | rfl | (rw [State.serveOpen_frame]; rfl)

/-! ### The migration engine -/

theorem State.placeClaim_frame (b : Bank) (k : ClaimKind) (s : State) :
    s.placeClaim b k = { s with banks := (s.placeClaim b k).banks } := by
  rfl

theorem State.takeJob_frame (s : State) :
    s.takeJob = { s with banks := (s.takeJob).banks, migQueue := (s.takeJob).migQueue, active := (s.takeJob).active } := by
  unfold State.takeJob; split
  · split
    · rw [State.placeClaim_frame]
    · rfl
  · rfl

theorem State.queueJob_frame (b : Bank) (r : LRow) (s : State) :
    s.queueJob b r = { s with
      banks := (s.queueJob b r).banks, migQueue := (s.queueJob b r).migQueue, active := (s.queueJob b r).active } := by
  unfold State.queueJob; rw [State.takeJob_frame]

theorem State.closeBank_frame (b : Bank) (s : State) :
    s.closeBank b = { s with banks := (s.closeBank b).banks } := by
  rfl

theorem State.switchRecord_frame (a : Active) (s : State) :
    s.switchRecord a = { s with
      banks := (s.switchRecord a).banks, notices := (s.switchRecord a).notices, alert := (s.switchRecord a).alert } := by
  unfold State.switchRecord; split
  · rfl
  · split <;> rfl

theorem State.takeSwitch_frame (a : Active) (s : State) :
    s.takeSwitch a = { s with
      banks := (s.takeSwitch a).banks, migQueue := (s.takeSwitch a).migQueue, active := (s.takeSwitch a).active,
      notices := (s.takeSwitch a).notices, alert := (s.takeSwitch a).alert } := by
  unfold State.takeSwitch; rw [State.takeJob_frame, State.closeBank_frame, State.switchRecord_frame]

theorem State.abortRecord_frame (a : Active) (s : State) :
    s.abortRecord a = { s with
      banks := (s.abortRecord a).banks, notices := (s.abortRecord a).notices, alert := (s.abortRecord a).alert } := by
  unfold State.abortRecord; split
  · rfl
  · split <;> rfl

theorem State.abortNow_frame (a : Active) (s : State) :
    s.abortNow a = { s with
      banks := (s.abortNow a).banks, migQueue := (s.abortNow a).migQueue, active := (s.abortNow a).active,
      notices := (s.abortNow a).notices, alert := (s.abortNow a).alert } := by
  unfold State.abortNow; dsimp only; rw [State.takeJob_frame, State.abortRecord_frame]; rfl

theorem State.enter_frame (a : Active) (p : Phase) (k : ClaimKind) (s : State) :
    s.enter a p k = { s with banks := (s.enter a p k).banks, active := (s.enter a p k).active } := by
  rfl

theorem State.beginPass_frame (a : Active) (s : State) :
    s.beginPass a = { s with banks := (s.beginPass a).banks, active := (s.beginPass a).active } := by
  rfl

theorem State.passDecision_frame (a : Active) (s : State) :
    s.passDecision a = { s with
      banks := (s.passDecision a).banks, migQueue := (s.passDecision a).migQueue, active := (s.passDecision a).active,
      notices := (s.passDecision a).notices, alert := (s.passDecision a).alert } := by
  unfold State.passDecision; split
  · rw [State.abortNow_frame]
  · split
    · rw [State.enter_frame]
    · split
      · rw [State.beginPass_frame]
      · rw [State.enter_frame]

theorem State.checkFailed_frame (a : Active) (s : State) :
    s.checkFailed a = { s with banks := (s.checkFailed a).banks, active := (s.checkFailed a).active } := by
  unfold State.checkFailed; split
  · rw [State.enter_frame]
  · split
    · rw [State.beginPass_frame]
    · rw [State.enter_frame]

theorem State.afterMainChunk_frame (a : Active) (s : State) :
    s.afterMainChunk a = { s with
      banks := (s.afterMainChunk a).banks, migQueue := (s.afterMainChunk a).migQueue, active := (s.afterMainChunk a).active,
      notices := (s.afterMainChunk a).notices, alert := (s.afterMainChunk a).alert } := by
  unfold State.afterMainChunk; dsimp only; split
  · rw [State.abortNow_frame]
  · split
    · rw [State.enter_frame]
    · rw [State.passDecision_frame]

theorem State.afterRecopyChunk_frame (a : Active) (s : State) :
    s.afterRecopyChunk a = { s with
      banks := (s.afterRecopyChunk a).banks, migQueue := (s.afterRecopyChunk a).migQueue,
      active := (s.afterRecopyChunk a).active, notices := (s.afterRecopyChunk a).notices, alert := (s.afterRecopyChunk a).alert } := by
  unfold State.afterRecopyChunk; split
  · rw [State.abortNow_frame]
  · split
    · rw [State.enter_frame]
    · rw [State.passDecision_frame]

theorem writeBursts_state (b : Bank) (p : PRow) (ws : List (Col × Burst)) (s : State) :
    writeBursts b p ws s = { s with stack := (writeBursts b p ws s).stack } := by
  unfold writeBursts
  induction ws generalizing s with
  | nil => rfl
  | cons w ws ih => rw [List.foldl_cons, ih]; rfl

theorem State.copyChunk_frame (k : Chunk) (s : State) :
    s.copyChunk k = { s with
      banks := (s.copyChunk k).banks, active := (s.copyChunk k).active, buffer := (s.copyChunk k).buffer,
      notices := (s.copyChunk k).notices, alert := (s.copyChunk k).alert, stack := (s.copyChunk k).stack,
      stackPort := (s.copyChunk k).stackPort } := by
  unfold State.copyChunk; split
  · rfl
  · next a ha =>
    generalize s.chunkCounts a k = n, s.chunkWrites a k = ws, s.bufferOf a k = buf
    obtain ⟨x1, x2, x3, h1⟩ : ∃ x1 x2 x3, (s.port (a.chunkOps k)).track a.bank a.source =
        { s with banks := x1, notices := x2, alert := x3, stackPort := s.stackPort ++ a.chunkOps k } :=
      ⟨_, _, _, State.track_frame ..⟩
    generalize s.stackPort ++ a.chunkOps k = ops at h1
    rw [h1]
    obtain ⟨y1, y2, y3, h2⟩ : ∃ y1 y2 y3, State.track a.bank a.dest
        { s with banks := x1, notices := x2, alert := x3, stackPort := ops } =
        { s with banks := y1, notices := y2, alert := y3, stackPort := ops } := ⟨_, _, _, State.track_frame ..⟩
    dsimp only
    rw [h2]
    obtain ⟨z, h3⟩ : ∃ z, writeBursts a.bank a.dest ws { s with
      banks := y1, notices := y2, alert := y3, stackPort := ops, buffer := buf } =
        { s with banks := y1, notices := y2, alert := y3, stackPort := ops, buffer := buf, stack := z } := ⟨_, writeBursts_state ..⟩
    rw [h3]
    rfl

theorem State.copyFlagged_frame (ks : List Chunk) (s : State) :
    s.copyFlagged ks = { s with
      banks := (s.copyFlagged ks).banks, active := (s.copyFlagged ks).active, buffer := (s.copyFlagged ks).buffer,
      notices := (s.copyFlagged ks).notices, alert := (s.copyFlagged ks).alert, stack := (s.copyFlagged ks).stack,
      stackPort := (s.copyFlagged ks).stackPort } := by
  unfold State.copyFlagged
  induction ks generalizing s with
  | nil => rfl
  | cons k ks ih => rw [List.foldl_cons, ih, State.copyChunk_frame]

theorem State.switchJob_frame (a : Active) (s : State) :
    s.switchJob a = { s with
      banks := (s.switchJob a).banks, migQueue := (s.switchJob a).migQueue, active := (s.switchJob a).active,
      notices := (s.switchJob a).notices, alert := (s.switchJob a).alert } := by
  unfold State.switchJob; split
  · rw [State.takeSwitch_frame]
  · rw [State.checkFailed_frame]; rfl

theorem State.grantMigration_frame (b : Bank) (k : ClaimKind) (s : State) :
    s.grantMigration b k = { s with
      banks := (s.grantMigration b k).banks, migQueue := (s.grantMigration b k).migQueue,
      active := (s.grantMigration b k).active, notices := (s.grantMigration b k).notices, alert := (s.grantMigration b k).alert } := by
  unfold State.grantMigration; dsimp only; split
  · rfl
  · rfl
  · split
    · split
      · rw [State.switchJob_frame]; rfl
      · rfl
    · rfl

theorem State.grant_frame (b : Bank) (w : Bool) (c : Choice) (s : State) :
    s.grant b w c = { s with
      banks := (s.grant b w c).banks, link := (s.grant b w c).link, outbound := (s.grant b w c).outbound,
      migQueue := (s.grant b w c).migQueue, active := (s.grant b w c).active, notices := (s.grant b w c).notices,
      alert := (s.grant b w c).alert, stackPort := (s.grant b w c).stackPort } := by
  unfold State.grant; split
  · rw [State.grantForced_frame]
  · rw [State.grantMigration_frame]
  · rw [State.grantLane_frame]

theorem State.arbiterChoice_frame (b : Bank) (e : Bool) (s : State) :
    s.arbiterChoice b e = { s with
      banks := (s.arbiterChoice b e).banks, link := (s.arbiterChoice b e).link, outbound := (s.arbiterChoice b e).outbound,
      migQueue := (s.arbiterChoice b e).migQueue, active := (s.arbiterChoice b e).active,
      notices := (s.arbiterChoice b e).notices, alert := (s.arbiterChoice b e).alert,
      stackPort := (s.arbiterChoice b e).stackPort } := by
  unfold State.arbiterChoice; dsimp only; split
  · split
    · rw [State.grant_frame]
    · rfl
  · rfl

/-! ### The refresh unit -/

theorem State.tickBank_frame (b : Bank) (s : State) :
    s.tickBank b = { s with
      banks := (s.tickBank b).banks, outbound := (s.tickBank b).outbound, notices := (s.tickBank b).notices,
      alert := (s.tickBank b).alert, stackPort := (s.tickBank b).stackPort } := by
  unfold State.tickBank; dsimp only; split
  · split <;> split <;> first | rfl | (rw [State.handNeed_frame]; rfl) | (rw [State.handNeed_frame, State.revokeIfForced_frame]; rfl) | (rw [State.revokeIfForced_frame]; rfl)
  · rfl

theorem State.tickBanks_frame (l : List Bank) (s : State) : l.foldl (fun s b => s.tickBank b) s =
    { s with
      banks := (l.foldl (fun s b => s.tickBank b) s).banks, outbound := (l.foldl (fun s b => s.tickBank b) s).outbound
      notices := (l.foldl (fun s b => s.tickBank b) s).notices, alert := (l.foldl (fun s b => s.tickBank b) s).alert
      stackPort := (l.foldl (fun s b => s.tickBank b) s).stackPort } := by
  induction l generalizing s with
  | nil => rfl
  | cons b l ih => rw [List.foldl_cons, ih, State.tickBank_frame]

theorem State.tickAll_frame (first : List Bank) (s : State) :
    s.tickAll first = { s with
      timer := (s.tickAll first).timer, banks := (s.tickAll first).banks, outbound := (s.tickAll first).outbound,
      notices := (s.tickAll first).notices, alert := (s.tickAll first).alert, stackPort := (s.tickAll first).stackPort } := by
  unfold State.tickAll; rw [State.tickBanks_frame]

theorem State.serviceOne_frame (b : Bank) (s : State) :
    s.serviceOne b = { s with banks := (s.serviceOne b).banks, stackPort := (s.serviceOne b).stackPort } := by
  unfold State.serviceOne; split <;> rfl

theorem State.serviceMany_frame (b : Bank) (n : Nat) (s : State) :
    State.serviceMany b n s = { s with
      banks := (State.serviceMany b n s).banks, stackPort := (State.serviceMany b n s).stackPort } := by
  induction n generalizing s with
  | zero => rfl
  | succ n ih => rw [State.serviceMany, ih, State.serviceOne_frame]

theorem State.afterService_frame (b : Bank) (s : State) :
    s.afterService b = { s with
      banks := (s.afterService b).banks, link := (s.afterService b).link, outbound := (s.afterService b).outbound,
      notices := (s.afterService b).notices, alert := (s.afterService b).alert, stackPort := (s.afterService b).stackPort } := by
  unfold State.afterService; dsimp only; split
  · split
    · rw [State.endOrder_frame]; rfl
    · rfl
  · split <;> rfl
  · rfl

theorem State.beginService_frame (b : Bank) (s : State) :
    s.beginService b = { s with
      banks := (s.beginService b).banks, link := (s.beginService b).link, outbound := (s.beginService b).outbound,
      notices := (s.beginService b).notices, alert := (s.beginService b).alert, stackPort := (s.beginService b).stackPort } := by
  unfold State.beginService; dsimp only; split
  · rfl
  · rw [State.afterService_frame]; rfl

theorem State.completeSlot_frame (b : Bank) (k : Nat) (s : State) :
    s.completeSlot b k = { s with
      banks := (s.completeSlot b k).banks, link := (s.completeSlot b k).link, outbound := (s.completeSlot b k).outbound,
      notices := (s.completeSlot b k).notices, alert := (s.completeSlot b k).alert, stackPort := (s.completeSlot b k).stackPort } := by
  unfold State.completeSlot; rw [State.beginService_frame]; rfl

theorem State.endService_frame (b : Bank) (s : State) :
    s.endService b = { s with
      banks := (s.endService b).banks, link := (s.endService b).link, outbound := (s.endService b).outbound,
      notices := (s.endService b).notices, alert := (s.endService b).alert, stackPort := (s.endService b).stackPort } := by
  unfold State.endService; split
  · rfl
  · rw [State.afterService_frame, State.serviceMany_frame]

/-! ### The intake -/

theorem State.rejectOrder_frame (k t : Byte) (f : List Byte) (r : Reason) (s : State) :
    s.rejectOrder k t f r = { s with
      outbound := (s.rejectOrder k t f r).outbound, notices := (s.rejectOrder k t f r).notices,
      alert := (s.rejectOrder k t f r).alert } := by
  unfold State.rejectOrder; dsimp only; split <;> rfl

theorem State.acceptOrder_frame (o : Order) (s : State) :
    s.acceptOrder o = { s with
      banks := (s.acceptOrder o).banks, held := (s.acceptOrder o).held, reportLane := (s.acceptOrder o).reportLane } := by
  unfold State.acceptOrder; split <;> rfl

theorem State.takeOrder_frame (k t : Byte) (f : List Byte) (s : State) :
    s.takeOrder k t f = { s with
      banks := (s.takeOrder k t f).banks, held := (s.takeOrder k t f).held, reportLane := (s.takeOrder k t f).reportLane,
      outbound := (s.takeOrder k t f).outbound, notices := (s.takeOrder k t f).notices, alert := (s.takeOrder k t f).alert } := by
  unfold State.takeOrder; split
  · rw [State.rejectOrder_frame]
  · rw [State.acceptOrder_frame]
  · rfl

theorem State.resetBank_frame (b : Bank) (s : State) :
    s.resetBank b = { s with banks := (s.resetBank b).banks, stackPort := (s.resetBank b).stackPort } := by
  unfold State.resetBank; dsimp only; split
  · rw [State.closeForReset_frame]; rfl
  · rfl

theorem State.resetBanks_frame (l : List Bank) (s : State) : l.foldl (fun s b => s.resetBank b) s =
    { s with
      banks := (l.foldl (fun s b => s.resetBank b) s).banks, stackPort := (l.foldl (fun s b => s.resetBank b) s).stackPort } := by
  induction l generalizing s with
  | nil => rfl
  | cons b l ih => rw [List.foldl_cons, ih, State.resetBank_frame]

theorem State.completeSending_frame (sending : Bool) (s : State) :
    s.completeSending sending = { s with linkOut := (s.completeSending sending).linkOut } := by
  unfold State.completeSending; split <;> rfl

theorem State.takeLinkReset_frame (sending : Bool) (s : State) :
    s.takeLinkReset sending = { s with
      banks := (s.takeLinkReset sending).banks, link := (s.takeLinkReset sending).link, held := (s.takeLinkReset sending).held,
      reportLane := (s.takeLinkReset sending).reportLane, outbound := (s.takeLinkReset sending).outbound,
      stackPort := (s.takeLinkReset sending).stackPort, linkOut := (s.takeLinkReset sending).linkOut } := by
  unfold State.takeLinkReset; split
  · dsimp only; rw [State.tryLinkUp_frame, State.resetBanks_frame, State.completeSending_frame]
  · rfl

theorem State.takeFrame_frame (f : List Byte) (s : State) :
    s.takeFrame f = { s with
      banks := (s.takeFrame f).banks, link := (s.takeFrame f).link, held := (s.takeFrame f).held,
      reportLane := (s.takeFrame f).reportLane, outbound := (s.takeFrame f).outbound, notices := (s.takeFrame f).notices,
      alert := (s.takeFrame f).alert, stackPort := (s.takeFrame f).stackPort, linkOut := (s.takeFrame f).linkOut } := by
  unfold State.takeFrame; split
  · rfl
  · split
    · rw [State.takeLinkReset_frame]
    · split
      · rw [State.takeOrder_frame]
      · split <;> rfl

theorem State.arrive_frame (f : List Byte) (s : State) :
    s.arrive f = { s with
      banks := (s.arrive f).banks, link := (s.arrive f).link, held := (s.arrive f).held, reportLane := (s.arrive f).reportLane,
      outbound := (s.arrive f).outbound, notices := (s.arrive f).notices, alert := (s.arrive f).alert,
      stackPort := (s.arrive f).stackPort, linkOut := (s.arrive f).linkOut, waiting := (s.arrive f).waiting } := by
  unfold State.arrive; split
  · rfl
  · split
    · rfl
    · rw [State.takeFrame_frame]

theorem State.arriveLinkReset_frame (rest : List Byte) (sending : Bool) (s : State) :
    s.arriveLinkReset rest sending = { s with
      banks := (s.arriveLinkReset rest sending).banks, link := (s.arriveLinkReset rest sending).link,
      held := (s.arriveLinkReset rest sending).held, reportLane := (s.arriveLinkReset rest sending).reportLane,
      outbound := (s.arriveLinkReset rest sending).outbound, notices := (s.arriveLinkReset rest sending).notices,
      alert := (s.arriveLinkReset rest sending).alert, stackPort := (s.arriveLinkReset rest sending).stackPort,
      linkOut := (s.arriveLinkReset rest sending).linkOut, waiting := (s.arriveLinkReset rest sending).waiting } := by
  unfold State.arriveLinkReset; split
  · rfl
  · split
    · rfl
    · rw [State.takeLinkReset_frame]

theorem State.takeWaiting_frame (l : List (List Byte)) (s : State) :
    State.takeWaiting l s = { s with
      banks := (State.takeWaiting l s).banks, link := (State.takeWaiting l s).link, held := (State.takeWaiting l s).held,
      reportLane := (State.takeWaiting l s).reportLane, outbound := (State.takeWaiting l s).outbound,
      notices := (State.takeWaiting l s).notices, alert := (State.takeWaiting l s).alert,
      stackPort := (State.takeWaiting l s).stackPort, linkOut := (State.takeWaiting l s).linkOut,
      waiting := (State.takeWaiting l s).waiting } := by
  induction l generalizing s with
  | nil => rfl
  | cons f l ih =>
    unfold State.takeWaiting; split
    · rfl
    · rw [ih, State.takeFrame_frame]

theorem State.freeTag_frame (m : OutMsg) (s : State) :
    s.freeTag m = { s with held := (s.freeTag m).held } := by
  unfold State.freeTag; split <;> rfl

theorem State.sendHead_frame (s : State) :
    s.sendHead = { s with
      banks := (s.sendHead).banks, link := (s.sendHead).link, held := (s.sendHead).held, reportLane := (s.sendHead).reportLane,
      outbound := (s.sendHead).outbound, notices := (s.sendHead).notices, alert := (s.sendHead).alert,
      stackPort := (s.sendHead).stackPort, linkOut := (s.sendHead).linkOut, waiting := (s.sendHead).waiting } := by
  unfold State.sendHead; split
  · rfl
  · rw [State.takeWaiting_frame, State.freeTag_frame]

/-! ### The suspect list and the steering claims -/

theorem State.steerClaim_frame (b : Bank) (r : LRow) (o : Origin) (s : State) : (s.steerClaim b r o).1 =
    { s with
      banks := (s.steerClaim b r o).1.banks, migQueue := (s.steerClaim b r o).1.migQueue, active := (s.steerClaim b r o).1.active
      notices := (s.steerClaim b r o).1.notices, alert := (s.steerClaim b r o).1.alert } := by
  unfold State.steerClaim
  split
  · split
    · rfl
    · split
      · rfl
      · dsimp only; rw [State.queueJob_frame]; rfl
  · split
    · split
      · rfl
      · split
        · rfl
        · dsimp only; rw [State.queueJob_frame]; rfl
    all_goals rfl

theorem State.evictLast_frame (s : State) :
    s.evictLast = { s with
      suspectList := (s.evictLast).suspectList, notices := (s.evictLast).notices, alert := (s.evictLast).alert } := by
  unfold State.evictLast; split <;> rfl

theorem State.countReport_frame (b : Bank) (r : LRow) (k : ReportKind) (s : State) : (s.countReport b r k).1 =
    { s with
      suspectList := (s.countReport b r k).1.suspectList, notices := (s.countReport b r k).1.notices
      alert := (s.countReport b r k).1.alert } := by
  unfold State.countReport
  split
  · rfl
  · dsimp only
    split
    · rw [State.evictLast_frame]
    · rfl

theorem State.flagFront_frame (s : State) :
    s.flagFront = { s with suspectList := (s.flagFront).suspectList } := by
  unfold State.flagFront; split <;> rfl

theorem State.evaluate_frame (k : ReportKind) (e : Suspect) (s : State) : s.evaluate k e =
    { s with
      banks := (s.evaluate k e).banks, migQueue := (s.evaluate k e).migQueue, active := (s.evaluate k e).active,
      suspectList := (s.evaluate k e).suspectList, notices := (s.evaluate k e).notices, alert := (s.evaluate k e).alert } := by
  unfold State.evaluate
  split
  · have h := State.steerClaim_frame e.bank e.row .auto s
    generalize s.steerClaim e.bank e.row .auto = y at h
    obtain ⟨s1, o⟩ := y
    obtain ⟨x1, x2, x3, x4, x5, rfl⟩ : ∃ x1 x2 x3 x4 x5, s1 =
        { s with banks := x1, migQueue := x2, active := x3, notices := x4, alert := x5 } := ⟨_, _, _, _, _, h⟩
    cases o <;> dsimp only <;> first | rfl | (rw [State.flagFront_frame]; done) | (rw [State.flagFront_frame]; rfl)
  · rw [State.flagFront_frame]

theorem State.takeReport_frame (b : Bank) (r : LRow) (k : ReportKind) (s : State) : s.takeReport b r k =
    { s with
      banks := (s.takeReport b r k).banks, migQueue := (s.takeReport b r k).migQueue, active := (s.takeReport b r k).active,
      suspectList := (s.takeReport b r k).suspectList, notices := (s.takeReport b r k).notices,
      alert := (s.takeReport b r k).alert } := by
  unfold State.takeReport
  dsimp only
  split
  · rw [State.evaluate_frame, State.countReport_frame]
  · rw [State.countReport_frame]

/-! ### The fuse store and the load -/

theorem State.startProgramming_frame (n : FuseNo) (e : FuseEntry) (s : State) :
    s.startProgramming n e = { s with
      programmer := (s.startProgramming n e).programmer, nextFree := (s.startProgramming n e).nextFree,
      image := (s.startProgramming n e).image } := by
  rfl

theorem State.rowSealResult_frame (b : Bank) (r : LRow) (n : FuseNo) (ok : Bool) (s : State) :
    s.rowSealResult b r n ok = { s with
      banks := (s.rowSealResult b r n ok).banks, notices := (s.rowSealResult b r n ok).notices,
      alert := (s.rowSealResult b r n ok).alert } := by
  unfold State.rowSealResult; dsimp only; (repeat' split) <;> rfl

theorem State.voidSealResult_frame (b : Bank) (d : Spare) (ok : Bool) (s : State) :
    s.voidSealResult b d ok = { s with
      banks := (s.voidSealResult b d ok).banks, notices := (s.voidSealResult b d ok).notices,
      alert := (s.voidSealResult b d ok).alert } := by
  unfold State.voidSealResult; dsimp only; split <;> rfl

theorem State.sealResult_frame (p : Programming) (ok : Bool) (s : State) :
    s.sealResult p ok = { s with
      banks := (s.sealResult p ok).banks, notices := (s.sealResult p ok).notices, alert := (s.sealResult p ok).alert } := by
  unfold State.sealResult; split
  · rw [State.rowSealResult_frame]
  · rw [State.voidSealResult_frame]

theorem State.endProgramming_frame (p : Programming) (f : FuseBytes) (s : State) :
    s.endProgramming p f = { s with
      banks := (s.endProgramming p f).banks, fuses := (s.endProgramming p f).fuses, image := (s.endProgramming p f).image,
      programmer := (s.endProgramming p f).programmer, notices := (s.endProgramming p f).notices,
      alert := (s.endProgramming p f).alert } := by
  unfold State.endProgramming; dsimp only; rw [State.sealResult_frame]

theorem State.loadClaim_frame (n : FuseNo) (c : SlotClass) (s : State) :
    s.loadClaim n c = { s with banks := (s.loadClaim n c).banks, summary := (s.loadClaim n c).summary } := by
  unfold State.loadClaim; split <;> rfl

theorem State.completeSummary_frame (s : State) :
    s.completeSummary = { s with nextFree := (s.completeSummary).nextFree, summary := (s.completeSummary).summary } := by
  unfold State.completeSummary; split <;> rfl

theorem State.tryLoadEnd_frame (s : State) :
    s.tryLoadEnd = { s with
      part := (s.tryLoadEnd).part, timer := (s.tryLoadEnd).timer, link := (s.tryLoadEnd).link,
      outbound := (s.tryLoadEnd).outbound, notices := (s.tryLoadEnd).notices, alert := (s.tryLoadEnd).alert } := by
  unfold State.tryLoadEnd; split <;> rfl

theorem State.loadSlot_frame (n : FuseNo) (f : FuseBytes) (s : State) :
    s.loadSlot n f = { s with
      part := (s.loadSlot n f).part, timer := (s.loadSlot n f).timer, banks := (s.loadSlot n f).banks,
      link := (s.loadSlot n f).link, outbound := (s.loadSlot n f).outbound, image := (s.loadSlot n f).image,
      nextFree := (s.loadSlot n f).nextFree, summary := (s.loadSlot n f).summary, loadPos := (s.loadSlot n f).loadPos,
      notices := (s.loadSlot n f).notices, alert := (s.loadSlot n f).alert } := by
  unfold State.loadSlot; dsimp only; rw [State.tryLoadEnd_frame, State.completeSummary_frame, State.loadClaim_frame]

/-! ### The service port and the part reset -/

theorem State.readyUnless_frame (late : Bool) (s : State) :
    s.readyUnless late = { s with exchange := (s.readyUnless late).exchange } := by
  unfold State.readyUnless State.responseReady; split
  · rfl
  · split <;> rfl

theorem State.respond_frame (late : Bool) (request : List Byte) (xn code : Byte) (r : Result) (contents : List Byte) (s : State) :
    s.respond late request xn code r contents = { s with exchange := (s.respond late request xn code r contents).exchange } := by
  rw [State.respond_eq]

theorem State.abandonJob_frame (n : Nat) (s : State) :
    s.abandonJob n = { s with
      stack := (s.abandonJob n).stack, buffer := (s.abandonJob n).buffer, stackPort := (s.abandonJob n).stackPort } := by
  unfold State.abandonJob; split
  · rfl
  · dsimp only; rw [writeBursts_state]; rfl

theorem State.resetPart_frame (n : Nat) (m : Byte) (k : Nat) (l : List (Bank × Nat)) (s : State) :
    s.resetPart n m k l = { State.reset with
      part := .reset, fuses := s.tornFuses n m, stack := (s.abandonJob k).stack, stackPort := (s.resetPart n m k l).stackPort
      buffer := (s.resetPart n m k l).buffer, linkOut := s.linkOut, servicePortOut := s.servicePortOut, freeCount := s.freeCount
      pending := s.pending } := by
  unfold State.resetPart State.fresh State.abandonRefreshes
  rw [State.abandonJob_frame]
  rfl

end Sys2Proof.Machine
end

