-- ==== Sys2Proof/Laws/Bank.lean ====
section
/-!
SUPPORT. What the operations of a bank unit and its arbiter do, one lemma for each case.
-/
namespace Sys2Proof.Machine

/-! ### Shadow states -/

/-- A bank that is not OPEN is CLOSED or CLAIMED. -/
theorem BankState.isOpen_eq_false {x : BankState} (h : x.isOpen = false) : x.shadow = .closed ∨ ∃ k, x.shadow = .claimed k := by
  unfold BankState.isOpen at h
  cases hx : x.shadow <;> simp_all

theorem BankState.isOpen_of_opened {x : BankState} {r : LRow} {p : PRow} (h : x.shadow = .opened r p) : x.isOpen = true := by
  simp [BankState.isOpen, h]

/-! ### The order at the head of a lane -/

/-- No order is begun on an OPEN bank with a forced claim. -/
theorem BankState.beginable_of_forced {x : BankState} (ho : x.isOpen = true) (hf : x.forced = true) : x.beginable = none := by
  unfold BankState.isOpen at ho
  unfold BankState.beginable
  split
  · cases hs : x.shadow <;> simp_all
  · rfl

/-- Otherwise the head may begin while none is in progress. -/
theorem BankState.beginable_head {x : BankState} {o : LaneOrder} {rest : List LaneOrder} (hip : x.inProgress = none)
    (hlane : x.lane = o :: rest) (hf : x.isOpen = true → x.forced = false) : x.beginable = some o.op := by
  unfold BankState.beginable
  unfold BankState.isOpen at hf
  cases hs : x.shadow <;> simp_all

/-- A forced claim grants nothing at once unless the bank is OPEN with no order in progress. -/
theorem State.revokeIfForced_calm {b : Bank} {s : State}
    (h : (s.bank b).forced = true → (s.bank b).isOpen = true → (s.bank b).inProgress ≠ none) : s.revokeIfForced b = s := by
  unfold State.revokeIfForced BankState.isOpen at *
  split
  · simp_all
  · rfl

/-- The end of an order while the link is UP and no forced claim stands on an OPEN bank: its reply is queued and it leaves the lane. -/
theorem State.endOrder_up {b : Bank} {o : LaneOrder} {rest : List LaneOrder} {body : ReplyBody} {s : State} (hl : s.link = .up)
    (hlane : (s.bank b).lane = o :: rest) (hf : (s.bank b).forced = true → (s.bank b).isOpen = false) :
    s.endOrder b body = { s.setBank b { s.bank b with lane := rest, inProgress := none } with
      outbound := s.outbound ++ [.reply o.tag (some b) body] } := by
  unfold State.endOrder
  simp only [hlane, State.settle, State.handReply, hl, if_true, State.setBank_link]
  rw [if_neg (by simp), State.revokeIfForced_calm]
  · rfl
  · simp only [State.bank_setBank_self]
    intro h1 h2
    have := hf h1
    simp_all [BankState.isOpen]

/-! ### The arbiter -/

/-- Whether a choice finds a migration claim. -/
theorem BankState.presentClaim_isSome (x : BankState) (e : Bool) :
    (x.presentClaim e).isSome = (x.migClaim.isSome && !(e && x.claimNew)) := by
  unfold BankState.presentClaim
  by_cases h : (e && x.claimNew) = true <;> simp [h]

/-- The forced claim is chosen whatever else waits. -/
theorem BankState.choose_forced {x : BankState} (limit : Nat) (e : Bool) (hf : x.forced = true) : x.choose limit e = some .forced := by
  simp [BankState.choose, hf]

/-- The lane's candidate is chosen when no migration claim stands before it. -/
theorem BankState.choose_lane {x : BankState} {limit : Nat} {e : Bool} {op : BankOp} (hf : x.forced = false)
    (hc : x.laneCandidate = some op) (h : (x.migClaim.isSome && !(e && x.claimNew)) = true → x.passover < limit) :
    x.choose limit e = some (.lane op) := by
  rw [← BankState.presentClaim_isSome] at h
  unfold BankState.choose
  simp only [hf, hc]
  cases hp : x.presentClaim e with
  | none => simp
  | some k =>
    simp [hp] at h
    simp [Nat.not_le.mpr h]

/-- A migration claim is chosen at the passover limit or when nothing waits in the lane. -/
theorem BankState.choose_migration {x : BankState} {limit : Nat} {k : ClaimKind} (hf : x.forced = false) (hm : x.migClaim = some k)
    (h : limit ≤ x.passover ∨ x.laneCandidate = none) : x.choose limit false = some (.migration k) := by
  unfold BankState.choose BankState.presentClaim
  simp only [hf, hm]
  rcases h with h | h
  · cases x.laneCandidate <;> simp [h]
  · simp [h]

/-- A lane without an OPEN or REFRESH at its head has no candidate. -/
theorem BankState.laneCandidate_eq_none {x : BankState} (h : x.laneAsks = false) : x.laneCandidate = none := by
  unfold BankState.laneAsks at h
  unfold BankState.laneCandidate
  cases hl : x.lane with
  | nil => rfl
  | cons o l =>
    obtain ⟨t, op⟩ := o
    cases op <;> simp_all

/-! ### The tracker -/

/-- Counting an activation changes the tracker and the target queue alone. -/
theorem BankState.counted_frame (x : BankState) (T : Nat) (p : PRow) :
    x.counted T p = { x with tracker := (x.counted T p).tracker, targets := (x.counted T p).targets } := by
  unfold BankState.counted
  dsimp only
  split
  · split <;> rfl
  · rfl

/-- It depends on them alone. -/
theorem BankState.counted_congr {x y : BankState} (T : Nat) (p : PRow) (h1 : x.tracker = y.tracker) (h2 : x.targets = y.targets) :
    (x.counted T p).tracker = (y.counted T p).tracker ∧ (x.counted T p).targets = (y.counted T p).targets := by
  unfold BankState.counted
  dsimp only
  rw [h1, h2]
  split
  · split <;> exact ⟨rfl, rfl⟩
  · exact ⟨rfl, rfl⟩

/-- An activation: recorded at the port and counted, with TARGET_OVERFLOW at a refused offer. -/
theorem State.activate_eq (s : State) (b : Bank) (p : PRow) : s.activate b p =
    let y := (s.bank b).counted s.settings.threshold p
    let u := (s.port [.activate b p]).setBank b { s.bank b with tracker := y.tracker, targets := y.targets }
    if offers (s.bank b).tracker s.settings.threshold p && decide (offerOf (s.bank b).targets p = .refused) then
      u.raise .targetOverflow (some b) none (.phys p)
    else u := by
  have h : ∀ t : State, t.track b p =
      if offers (t.bank b).tracker t.settings.threshold p && decide (offerOf (t.bank b).targets p = .refused) then
        (t.setBank b ((t.bank b).counted t.settings.threshold p)).raise .targetOverflow (some b) none (.phys p)
      else t.setBank b ((t.bank b).counted t.settings.threshold p) := fun _ => rfl
  unfold State.activate
  rw [h, BankState.counted_frame]
  rfl

end Sys2Proof.Machine
end

