-- ==== Sys2Proof/Laws/Layout.lean ====
section
/-!
SUPPORT. What the layouts of the responses and the engine's taking of a job come to: a record entry and a spare entry case by case, the counts
over all banks, the tracker's activation with its notice, and `State.takeJob` case by case.
-/
namespace Sys2Proof.Machine

/-! ### Counts over all banks -/

theorem State.banks_toList (s : State) : s.banks.toList = allBanks.map s.bank :=
  List.ext_getElem (by simp [allBanks]) fun i h1 h2 => by simp [allBanks, State.bank, Vector.get_eq_getElem]

theorem vector8_toList {α : Type} (v : Vector α 8) : v.toList = (List.finRange 8).map v.get :=
  List.ext_getElem (by simp) fun i h1 h2 => by simp [Vector.get_eq_getElem]

theorem BankState.recList_countP (x : BankState) (p : RecState → Bool) :
    x.recList.countP (fun y => p y.2.state) = (List.finRange 8).countP fun d => (x.records.get d).any fun e => p e.state := by
  rw [BankState.recList, List.countP_filterMap]
  congr 1
  funext d
  cases x.records.get d <;> rfl

theorem State.countRecs_eq (s : State) (p : RecState → Bool) :
    s.countRecs p = (allBanks.map fun b => (List.finRange 8).countP fun d => ((s.bank b).records.get d).any fun e => p e.state).sum := by
  simp only [State.countRecs, State.banks_toList, List.map_map, BankState.recList_countP, Function.comp_def]

theorem State.countSpares_eq (s : State) (p : SpareState → Bool) :
    s.countSpares p = (allBanks.map fun b => (List.finRange 8).countP fun d => p ((s.bank b).spares.get d)).sum := by
  simp only [State.countSpares, State.banks_toList, List.map_map, vector8_toList, List.countP_map, Function.comp_def]

theorem State.notReported_eq (s : State) : s.notReported = allBanks.countP fun b => !(s.bank b).reported := by
  simp only [State.notReported, State.banks_toList, List.countP_map, Function.comp_def]

/-! ### Entries -/

theorem recEntry_eq (b : Bank) (d : Spare) (e : Rec) : recEntry b d e = byteOf b.val :: (twoBytes e.row.val ++
    match e.state with
    | .migrating none => [0x01, byteOf d.val, 0x00, 0x00, e.origin.code, byteOf e.poison, 0x00]
    | .migrating (some (f, false)) => [0x01, byteOf d.val, 0x01, byteOf f.val, e.origin.code, byteOf e.poison, 0x00]
    | .migrating (some (f, true)) => [0x01, byteOf d.val, 0x05, byteOf f.val, e.origin.code, byteOf e.poison, 0x00]
    | .steered => [0x02, byteOf d.val, 0x00, 0x00, e.origin.code, byteOf e.poison, 0x00]
    | .sealing n => [0x03, byteOf d.val, 0x02, 0x00, e.origin.code, byteOf e.poison, byteOf n.val]
    | .fused n => [0x04, byteOf d.val, 0x02, 0x00, e.origin.code, byteOf e.poison, byteOf n.val]
    | .returning => [0x05, byteOf d.val, 0x00, 0x00, e.origin.code, byteOf e.poison, 0x00]) := by
  obtain ⟨r, st, o, p⟩ := e
  rcases st with (_ | ⟨f, _ | _⟩) | _ | _ | _ | _ <;> rfl

theorem flatMap_of_filterMap {α β γ : Type} (l : List α) (g : α → Option β) (f : β → List γ) :
    (l.filterMap g).flatMap f = l.flatMap fun a => (g a).elim [] f := by
  induction l with
  | nil => rfl
  | cons a l ih => rw [List.filterMap_cons, List.flatMap_cons, ← ih]; cases g a <;> rfl

theorem BankState.recList_flatMap (x : BankState) (f : Spare → Rec → List Byte) :
    x.recList.flatMap (fun y => f y.1 y.2) = (List.finRange 8).flatMap fun d => (x.records.get d).elim [] (f d) := by
  rw [BankState.recList, flatMap_of_filterMap]
  congr 1
  funext d
  cases x.records.get d <;> rfl

theorem BankState.trackList_flatMap (x : BankState) (f : Fin 6 → TrackEntry → List Byte) :
    x.trackList.flatMap (fun y => f y.1 y.2) = (List.finRange 6).flatMap fun i => (x.tracker.get i).elim [] (f i) := by
  rw [BankState.trackList, flatMap_of_filterMap]
  congr 1
  funext i
  cases x.tracker.get i <;> rfl

theorem BankState.spareEntry_free {x : BankState} {d : Spare} (h : x.spares.get d = .free) : x.spareEntry d = [0x00, 0x00, 0x00] := by
  simp [BankState.spareEntry, h]

theorem BankState.spareEntry_bad {x : BankState} {d : Spare} {v : Bool} (h : x.spares.get d = .bad v) :
    x.spareEntry d = [if v then 0x06 else 0x02, 0x00, 0x00] := by
  rw [BankState.spareEntry, h]; cases v <;> rfl

theorem BankState.spareEntry_named {x : BankState} {d : Spare} {e : Rec} (h : x.spares.get d = .held) (he : x.records.get d = some e) :
    x.spareEntry d = 0x01 :: twoBytes e.row.val := by
  rw [BankState.spareEntry, h]; simp only [BankState.namedBy, he]; rfl

/-! ### The tracker's activation with its notice -/

theorem State.track_bank (s : State) (b : Bank) (p : PRow) : (s.track b p).bank b = (s.bank b).counted s.settings.threshold p := by
  unfold State.track; dsimp only; split
  · exact State.bank_setBank_self ..
  · exact State.bank_setBank_self ..

/-! ### Taking a job -/

theorem State.takeJob_of_active {s : State} (h : s.active ≠ none) : s.takeJob = s := by
  unfold State.takeJob; split
  · exact absurd (by assumption) h
  · rfl

theorem State.takeJob_of_nil {s : State} (h : s.migQueue = []) : s.takeJob = s := by
  unfold State.takeJob; split
  · rename_i heq; rw [h] at heq; cases heq
  · rfl

theorem State.takeJob_cons {s : State} {b : Bank} {r : LRow} {q : List (Bank × LRow)} {a : Active} (ha : s.active = none)
    (hq : s.migQueue = (b, r) :: q) (hj : s.jobOf b r = some a) :
    s.takeJob = ({ s with migQueue := q, active := some a } : State).placeClaim b .copy := by
  unfold State.takeJob; rw [ha, hq]; dsimp only; rw [hj]

/-- A number is read as the bounded number of its value. -/
theorem toFin?_eq_some {n v : Nat} {x : Fin n} : toFin? n v = some x ↔ x.val = v := by
  unfold toFin?
  split
  · rw [Option.some.injEq, Fin.ext_iff, eq_comm]
  · next h => exact ⟨fun h' => absurd h' (by simp), fun h' => absurd (h' ▸ x.isLt) h⟩

/-- A number at or above the bound is not read. -/
theorem toFin?_eq_none {n v : Nat} : toFin? n v = none ↔ n ≤ v := by
  unfold toFin?
  split <;> simp <;> omega

end Sys2Proof.Machine
end

