-- ==== Sys2Proof/Laws/Memory.lean ====
section
/-!
SUPPORT. The stack's memory: a write keeps the canonical form, and reading after a write.
-/
namespace Sys2Proof.Machine

/-- The canonical form of a non-empty memory, taken apart. -/
theorem Memory.wf_cons {k : Nat} {v : Burst} {m : Memory} :
    Memory.wf ((k, v) :: m) = true ↔ v ≠ Config.unwrittenBurst ∧ (∀ e ∈ m, k < e.1) ∧ Memory.wf m = true := by
  simp [Memory.wf, and_assoc]

/-- Every address a write can leave in a memory is the written one or was there. -/
theorem Memory.mem_write {m : Memory} {a : Nat} {v : Burst} {e : Nat × Burst} (h : e ∈ Memory.write m a v) : e = (a, v) ∨ e ∈ m := by
  induction m with
  | nil =>
    simp only [Memory.write] at h
    split at h <;> simp_all
  | cons x m ih =>
    obtain ⟨k, w⟩ := x
    simp only [Memory.write] at h
    split at h
    · split at h <;> simp_all
    · split at h
      · split at h
        · exact Or.inr (List.mem_cons_of_mem _ h)
        · rcases List.mem_cons.mp h with h | h
          · exact Or.inl h
          · exact Or.inr (List.mem_cons_of_mem _ h)
      · rcases List.mem_cons.mp h with h | h
        · exact Or.inr (h ▸ List.mem_cons_self)
        · exact (ih h).imp id (List.mem_cons_of_mem _)

/-- A write keeps the canonical form. -/
theorem Memory.wf_write {m : Memory} (h : Memory.wf m = true) (a : Nat) (v : Burst) : Memory.wf (Memory.write m a v) = true := by
  induction m with
  | nil =>
    simp only [Memory.write]
    split
    · rfl
    · next hv => simp [Memory.wf, hv]
  | cons x m ih =>
    obtain ⟨k, w⟩ := x
    obtain ⟨hw, hk, hm⟩ := Memory.wf_cons.mp h
    simp only [Memory.write]
    split
    · next hak =>
      split
      · exact h
      · next hv =>
        refine Memory.wf_cons.mpr ⟨hv, ?_, h⟩
        intro e he
        rcases List.mem_cons.mp he with he | he
        · subst he; exact hak
        · exact lt_trans hak (hk e he)
    · split
      · next hak =>
        subst hak
        split
        · exact hm
        · next hv => exact Memory.wf_cons.mpr ⟨hv, hk, hm⟩
      · next hlt hne =>
        refine Memory.wf_cons.mpr ⟨hw, ?_, ih hm⟩
        intro e he
        rcases Memory.mem_write he with he | he
        · subst he; exact lt_of_le_of_ne (not_lt.mp hlt) (fun e => hne e.symm)
        · exact hk e he

/-- An address below every entry is unlisted. -/
theorem Memory.read_of_lt {m : Memory} {a : Nat} (h : ∀ e ∈ m, a < e.1) : Memory.read m a = Config.unwrittenBurst := by
  induction m with
  | nil => rfl
  | cons x m ih =>
    obtain ⟨k, w⟩ := x
    have hk : a < k := h (k, w) List.mem_cons_self
    simp only [Memory.read, if_neg (Nat.ne_of_gt hk)]
    exact ih fun e he => h e (List.mem_cons_of_mem _ he)

/-- The address written reads as written. -/
theorem Memory.read_write_self {m : Memory} (h : Memory.wf m = true) (a : Nat) (v : Burst) : Memory.read (Memory.write m a v) a = v := by
  induction m with
  | nil =>
    simp only [Memory.write]
    split
    · next hv => rw [hv]; rfl
    · simp [Memory.read]
  | cons x m ih =>
    obtain ⟨k, w⟩ := x
    obtain ⟨_, hk, hm⟩ := Memory.wf_cons.mp h
    simp only [Memory.write]
    split
    · next hak =>
      split
      · next hv =>
        rw [hv, Memory.read, if_neg (Nat.ne_of_gt hak)]
        exact Memory.read_of_lt fun e he => lt_trans hak (hk e he)
      · simp [Memory.read]
    · split
      · next hak =>
        subst hak
        split
        · next hv => rw [hv]; exact Memory.read_of_lt hk
        · simp [Memory.read]
      · next hne => rw [Memory.read, if_neg (fun e => hne e.symm)]; exact ih hm

/-- Every other address reads as before. -/
theorem Memory.read_write_of_ne {m : Memory} {a b : Nat} (hb : b ≠ a) (v : Burst) :
    Memory.read (Memory.write m a v) b = Memory.read m b := by
  induction m with
  | nil =>
    simp only [Memory.write]
    split
    · rfl
    · simp [Memory.read, Ne.symm hb]
  | cons x m ih =>
    obtain ⟨k, w⟩ := x
    simp only [Memory.write]
    split
    · split
      · rfl
      · simp [Memory.read, Ne.symm hb]
    · split
      · next hak =>
        subst hak
        split
        · simp [Memory.read, Ne.symm hb]
        · simp [Memory.read, Ne.symm hb]
      · simp only [Memory.read]; split
        · rfl
        · exact ih

/-- Bursts of different places have different addresses. -/
theorem burstAddr_inj {b b' : Bank} {p p' : PRow} {c c' : Col} (h : burstAddr b p c = burstAddr b' p' c') : b = b' ∧ p = p' ∧ c = c' := by
  simp only [burstAddr] at h
  refine ⟨?_, ?_, ?_⟩ <;> apply Fin.ext <;> omega

/-- The burst written reads as written. -/
theorem State.readBurst_writeBurst_self {s : State} (h : Memory.wf s.stack = true) (b : Bank) (p : PRow) (c : Col) (v : Burst) :
    (s.writeBurst b p c v).readBurst b p c = v := Memory.read_write_self h _ _

/-- Every other burst reads as before. -/
theorem State.readBurst_writeBurst_of_ne (s : State) {b b' : Bank} {p p' : PRow} {c c' : Col} (v : Burst)
    (h : (b', p', c') ≠ (b, p, c)) : (s.writeBurst b p c v).readBurst b' p' c' = s.readBurst b' p' c' := by
  apply Memory.read_write_of_ne
  intro e
  obtain ⟨h1, h2, h3⟩ := burstAddr_inj e
  exact h (by rw [h1, h2, h3])

/-- Writing several bursts of one row keeps the canonical form. -/
theorem writeBursts_wf {b : Bank} {p : PRow} (ws : List (Col × Burst)) {s : State} (h : Memory.wf s.stack = true) :
    Memory.wf (writeBursts b p ws s).stack = true := by
  induction ws generalizing s with
  | nil => exact h
  | cons w ws ih => exact ih (s := s.writeBurst b p w.1 w.2) (Memory.wf_write h _ _)

/-- Writing bursts changes the stack's contents and nothing else. -/
theorem writeBursts_frame (b : Bank) (p : PRow) (ws : List (Col × Burst)) (s : State) :
    writeBursts b p ws s = { s with stack := (writeBursts b p ws s).stack } := by
  induction ws generalizing s with
  | nil => rfl
  | cons w ws ih => exact ih (s.writeBurst b p w.1 w.2)

/-- Writing bursts of one row leaves every burst at other places, and at columns not written, as it was. -/
theorem writeBursts_read_of_ne {b b' : Bank} {p p' : PRow} {c' : Col} (ws : List (Col × Burst)) (s : State)
    (h : ∀ w ∈ ws, (b', p', c') ≠ (b, p, w.1)) : (writeBursts b p ws s).readBurst b' p' c' = s.readBurst b' p' c' := by
  induction ws generalizing s with
  | nil => rfl
  | cons w ws ih =>
    refine (ih (s.writeBurst b p w.1 w.2) fun x hx => h x (List.mem_cons_of_mem _ hx)).trans ?_
    exact State.readBurst_writeBurst_of_ne s w.2 (h w List.mem_cons_self)

/-- Writing bursts at different columns leaves each as written. -/
theorem writeBursts_read_of_mem {b : Bank} {p : PRow} {c : Col} {v : Burst} (ws : List (Col × Burst)) {s : State}
    (hwf : Memory.wf s.stack = true) (hd : (ws.map Prod.fst).Nodup) (h : (c, v) ∈ ws) :
    (writeBursts b p ws s).readBurst b p c = v := by
  induction ws generalizing s with
  | nil => cases h
  | cons w ws ih =>
    rcases List.mem_cons.mp h with h | h
    · subst h
      refine (writeBursts_read_of_ne ws (s.writeBurst b p c v) ?_).trans (State.readBurst_writeBurst_self hwf b p c v)
      intro x hx e
      have : c = x.1 := congrArg (fun t => t.2.2) e
      exact (List.nodup_cons.mp hd).1 (List.mem_map.mpr ⟨x, hx, this.symm⟩)
    · exact ih (s := s.writeBurst b p w.1 w.2) (Memory.wf_write hwf _ _) (List.nodup_cons.mp hd).2 h

/-- The reset memory has the canonical form. -/
theorem State.reset_stack_wf : Memory.wf State.reset.stack = true := rfl

end Sys2Proof.Machine
end

