-- ==== Sys2Proof/Laws/Steering.lean ====
section
/-!
SUPPORT. What the searches of a bank's steering table, spare pool and tracker find, and the keys of the jobs.
-/
namespace Sys2Proof.Machine

/-- Finding nothing in a search over every index. -/
theorem find_finRange_none {n : Nat} {p : Fin n → Bool} : (List.finRange n).find? p = none ↔ ∀ i, p i = false := by
  simp [List.find?_eq_none]

/-- A search over every index finds the one index that satisfies the test. -/
theorem find_finRange_unique {n : Nat} {p : Fin n → Bool} {i : Fin n} (hi : p i = true) (hu : ∀ j, p j = true → j = i) :
    (List.finRange n).find? p = some i := by
  cases h : (List.finRange n).find? p with
  | none => exact absurd hi (by simp [find_finRange_none.mp h i])
  | some j => rw [hu j (List.find?_some h)]

/-- A search over every index finds the lowest that satisfies the test. -/
theorem find_finRange_least {n : Nat} {p : Fin n → Bool} {i : Fin n} (hi : p i = true) (hl : ∀ j, j < i → p j = false) :
    (List.finRange n).find? p = some i := by
  cases h : (List.finRange n).find? p with
  | none => exact absurd hi (by simp [find_finRange_none.mp h i])
  | some j =>
    have hj := List.find?_some h
    rcases lt_trichotomy j i with hlt | heq | hgt
    · simp [hl j hlt] at hj
    · rw [heq]
    · obtain ⟨_, as, bs, hab, hno⟩ := List.find?_eq_some_iff_append.mp h
      have hs : (List.finRange n).Pairwise (· < ·) := List.pairwise_lt_finRange n
      have hm : i ∈ List.finRange n := List.mem_finRange i
      rw [hab] at hs hm
      rw [List.pairwise_append] at hs
      rcases List.mem_append.mp hm with hm | hm
      · exact absurd hi (by simpa using hno i hm)
      · rcases List.mem_cons.mp hm with hm | hm
        · exact absurd hgt (by simp [hm])
        · exact absurd (List.rel_of_pairwise_cons hs.2.1 hm) (not_lt.mpr hgt.le)

/-! ### Records -/

/-- No record of a row is found exactly when there is none. -/
theorem BankState.recOf_eq_none {x : BankState} {r : LRow} : x.recOf r = none ↔ x.noRecord r := by
  unfold BankState.recOf BankState.slotOf BankState.noRecord
  constructor
  · intro h
    split at h
    · next hn =>
      intro d e he hr
      have := find_finRange_none.mp hn d
      simp [he, hr] at this
    · next d hd =>
      have := List.find?_some hd
      cases hx : x.records.get d <;> simp_all
  · intro h
    have : (List.finRange 8).find? (fun d => (x.records.get d).any fun e => decide (e.row = r)) = none :=
      find_finRange_none.mpr fun d => by
        cases hx : x.records.get d with
        | none => rfl
        | some e => simpa using h d e hx
    rw [this]

/-- The record found stands in the slot found and is of the row. -/
theorem BankState.recOf_some {x : BankState} {r : LRow} {d : Spare} {e : Rec} (h : x.recOf r = some (d, e)) :
    x.records.get d = some e ∧ e.row = r := by
  unfold BankState.recOf BankState.slotOf at h
  split at h
  · simp at h
  · next d' hd =>
    have := List.find?_some hd
    cases hx : x.records.get d' <;> simp_all

/-- In a table without two records of one row, the record of a row is the one found. -/
theorem BankState.recOf_eq {x : BankState} {r : LRow} {d : Spare} {e : Rec} (ht : x.tableOk) (he : x.records.get d = some e)
    (hr : e.row = r) : x.recOf r = some (d, e) := by
  have hs : x.slotOf r = some d := by
    refine find_finRange_unique (by simp [he, hr]) fun j hj => ?_
    cases hx : x.records.get j with
    | none => simp [hx] at hj
    | some f =>
      simp only [hx, Option.any_some, decide_eq_true_eq] at hj
      exact ht.1 j d (by simp [hx]) (by simp [hx, he, hj, hr])
  simp [BankState.recOf, hs, he]

/-! ### Spares -/

/-- The spare that allocation takes. -/
theorem BankState.freeSpare_eq {x : BankState} {d : Spare} (h : x.lowestFree d) : x.freeSpare = some d :=
  find_finRange_least (by simp [h.1]) fun j hj => by simpa using h.2 j hj

/-- Allocation finds nothing exactly when no spare is FREE. -/
theorem BankState.freeSpare_eq_none {x : BankState} : x.freeSpare = none ↔ ∀ d, x.spares.get d ≠ .free := by
  unfold BankState.freeSpare
  rw [find_finRange_none]
  simp

/-! ### The suspect list -/

/-- The suspect record of a key, when it is the only one of the key. -/
theorem suspectOf_eq {l l' : List Suspect} {e : Suspect} (hn : ∀ f ∈ l, ¬ (f.bank = e.bank ∧ f.row = e.row)) :
    suspectOf (l ++ e :: l') e.bank e.row = some e := by
  unfold suspectOf
  rw [List.find?_append, List.find?_eq_none.mpr (by
    intro f hf
    have := hn f hf
    simp [Suspect.isOf]
    tauto)]
  simp [Suspect.isOf]

/-- No suspect record of a key. -/
theorem suspectOf_eq_none {l : List Suspect} {b : Bank} {r : LRow} :
    suspectOf l b r = none ↔ ∀ f ∈ l, ¬ (f.bank = b ∧ f.row = r) := by
  simp [suspectOf, Suspect.isOf]

/-- The list without the record of a key, when it is the only one of the key. -/
theorem withoutSuspect_eq {l l' : List Suspect} {e : Suspect} (hn : ∀ f ∈ l ++ l', ¬ (f.bank = e.bank ∧ f.row = e.row)) :
    withoutSuspect (l ++ e :: l') e.bank e.row = l ++ l' := by
  unfold withoutSuspect
  have h : ∀ f ∈ l ++ l', (!Suspect.isOf e.bank e.row f) = true := by
    intro f hf
    have := hn f hf
    simp [Suspect.isOf]
    tauto
  rw [List.filter_append, List.filter_cons_of_neg (by simp [Suspect.isOf]),
    List.filter_eq_self.mpr fun f hf => h f (List.mem_append_left _ hf),
    List.filter_eq_self.mpr fun f hf => h f (List.mem_append_right _ hf)]

/-- A record has a job exactly when it gives a move (R70, R72). -/
theorem Rec.move_isSome (d : Spare) (e : Rec) : (e.move d).isSome = e.state.hasJob := by
  unfold Rec.move RecState.hasJob; cases e.state <;> rfl

/-- A job names the key it was taken for. -/
theorem State.jobOf_key {s : State} {b : Bank} {r : LRow} {a : Active} (h : s.jobOf b r = some a) : a.bank = b ∧ a.row = r := by
  unfold State.jobOf at h
  split at h
  · exact absurd h (by simp)
  · obtain ⟨m, -, rfl⟩ := Option.map_eq_some_iff.mp h
    exact ⟨rfl, rfl⟩

/-- Taking a job moves its key from the queue to the active job (R71), where every pending job has a record that gives a move. -/
theorem State.takeJob_jobKeys {s : State} (h : ∀ k ∈ s.migQueue, (s.jobOf k.1 k.2).isSome = true) : s.takeJob.jobKeys = s.jobKeys := by
  unfold State.takeJob
  split
  · next b r q ha hq =>
    obtain ⟨a, hj⟩ := Option.isSome_iff_exists.mp (h (b, r) (by simp [hq]))
    obtain ⟨rfl, rfl⟩ := State.jobOf_key hj
    simp [hj, State.jobKeys, State.placeClaim, State.setBank, ha, hq]
  · rfl

/-- An intake REJECT is unsent exactly when the outbound queue holds one (R59). -/
theorem State.rejectUnsent_eq (s : State) : s.rejectUnsent = s.outbound.any OutMsg.isIntakeReject := by
  unfold State.rejectUnsent
  congr 1; funext m; cases m <;> rfl

end Sys2Proof.Machine
end

