-- ==== Sys2Proof/Tests/Slice0.lean ====
section
/-!
SUPPORT. The model's own tests: ill-formed terms, words written out from the spec's encodings, one small step of each command, and for
every statement that has hypotheses states and operands that meet them, clause by clause.
-/
namespace Sys2Proof.Tests
open Sys2Proof Sys2Proof.Machine

set_option maxRecDepth 100000

/-! ### Helpers -/

/-- The state a command leaves. -/
def after (c : Instr) (s : State) : State :=
  match exec c s with
  | .next t => t
  | .fault _ | .refused _ => s

/-- The part RUNNING with the link UP, every bank CLOSED and every table empty. -/
def up : State := { State.reset with part := .running, link := .up, timer := some 39 }

/-- `up` with bank 47 as given. -/
def at47 (x : BankState) : State := up.setBank 47 x

/-- `up` with one message in the outbound queue. -/
def queued (m : OutMsg) : State := { up with outbound := [m] }

/-- A CLOSED bank with one order in its lane. -/
def lane1 (op : BankOp) : BankState := { BankState.reset with lane := [⟨63, op⟩] }

/-- The same bank OPEN on logical row 32767 in its own physical row. -/
def open1 (op : BankOp) : BankState := { lane1 op with shadow := .opened 32767 32767 }

/-- A bank with a record of logical row 32767 in slot 0 and, where it has a from-spare, that is spare 7. -/
def withRec (st : RecState) : BankState :=
  { BankState.reset with
    records := BankState.reset.records.set 0 (some { row := 32767, state := st, origin := .managed, poison := 2 })
    spares := (BankState.reset.spares.set 0 .held).set 7 (if st.old.isSome then .held else .free) }

/-- A bank without a FREE spare and with the same record. -/
def noSpare (st : RecState) : BankState := { withRec st with spares := (Vector.replicate 8 (.bad false)).set 0 .held }

/-- The context of a move of row 32767 of bank 47 into spare 0. -/
def job (p : Phase) : Active :=
  { phase := p, bank := 47, row := 32767, kind := .move, source := 32767, dest := 32768, cursor := if p = .copying then 7 else 8
    mask := Vector.replicate 8 false, passPos := none, passesDone := 0, abort := false, corrected := 255, poisoned := 255 }

/-- `at47 x` with a job active. -/
def moving (x : BankState) (a : Active) : State := { at47 x with active := some a }

/-- A migration queue with its eight jobs. -/
def fullQueue : List (Bank × LRow) := (List.finRange 8).map fun i => (0, ⟨i.val, by omega⟩)

/-- A suspect of row 32767 of bank 47. -/
def suspect : Suspect := { bank := 47, row := 32767, corrected := 254, uncorrected := 0, flagged := false }

/-- A REPORT of it. -/
def report : Report := { tag := 63, bank := 47, row := 32767, kind := .corrected }

/-! ### Ill-formed terms -/

theorem test_wf_order_frame_without_tag : (Instr.orderOpen []).wellFormed = false ∧ (Instr.orderReport []).wellFormed = false := by decide
theorem test_wf_unknown_frame_of_known_kind : (Instr.unknownOrderFrame [0x01, 0x00]).wellFormed = false := by decide
theorem test_wf_unknown_frame_that_is_link_reset : (Instr.unknownOrderFrame [0x0F]).wellFormed = false := by decide
theorem test_wf_unknown_frame_empty : (Instr.unknownOrderFrame []).wellFormed = false := by decide
theorem test_wf_unknown_request_of_known_code : (Instr.unknownRequest ⟨[0x01, 0x05, 0x00], false⟩).wellFormed = false := by decide
theorem test_wf_unknown_request_too_short : (Instr.unknownRequest ⟨[0x01, 0x05], false⟩).wellFormed = false := by decide
theorem test_wf_tick_naming_a_bank_twice : (Instr.tick [3, 3]).wellFormed = false := by decide
theorem test_wf_response_read_of_no_byte : (Instr.responseRead ⟨0, false⟩).wellFormed = false := by decide
theorem test_wf_part_reset_past_the_slot : (Instr.partReset 6 0 ⟨0, []⟩).wellFormed = false := by decide
theorem test_wf_part_reset_past_the_job : (Instr.partReset 0 0 ⟨161, []⟩).wellFormed = false := by decide
theorem test_wf_part_reset_naming_a_bank_twice : (Instr.partReset 0 0 ⟨0, [(3, 1), (3, 2)]⟩).wellFormed = false := by decide
theorem test_wf_part_reset_past_the_sweep_slot : (Instr.partReset 0 0 ⟨0, [(3, 9)]⟩).wellFormed = false := by decide
theorem test_wf_well_formed_terms : (Instr.orderOpen [0x3F]).wellFormed = true ∧ (Instr.unknownOrderFrame [0x07, 0x00]).wellFormed = true
    ∧ (Instr.unknownOrderFrame [0x01]).wellFormed = true ∧ (Instr.unknownRequest ⟨[0x12, 0x05, 0x00], false⟩).wellFormed = true
    ∧ (Instr.partReset 5 0xFF ⟨160, [(0, 8), (47, 0)]⟩).wellFormed = true := by decide

/-! ### Words written out from the spec's encodings -/

theorem test_decode_open : parseOrder 0x01 [0x3F, 0x2F, 0x7F, 0xFF] = some (.bank 63 47 (.opn 32767)) := by decide
theorem test_decode_read : parseOrder 0x02 [0x05, 0x00, 0x3F] = some (.bank 5 0 (.read 63)) := by decide
theorem test_decode_write_check_byte :
    (parseOrder 0x03 (0x00 :: 0x00 :: 0x00 :: (List.replicate 64 0x11 ++ [0, 1, 2, 3, 4, 5, 6, 7])))
      = some (.bank 0 0 (.write 0 (Vector.ofFn fun i : Fin 8 => { data := 0x1111111111111111, check := BitVec.ofNat 8 i.val }))) := by decide
theorem test_decode_report : parseOrder 0x06 [0x00, 0x01, 0x01, 0x00, 0x02] = some (.report 0 1 256 .uncorrected) := by decide
theorem test_decode_rejects_set_high_bits : parseOrder 0x04 [0x40, 0x00] = none ∧ parseOrder 0x04 [0x00, 0x30] = none
    ∧ parseOrder 0x01 [0x00, 0x00, 0x80, 0x00] = none ∧ parseOrder 0x05 [0x00] = none := by decide
theorem test_decode_requests : parseRequestFrame [0x05, 0x09, 0x03, 0x2F, 0x7F, 0xFF] = some (0x05, 0x09, some (.steer 0x2F 0x7FFF))
    ∧ parseRequestFrame [0x05, 0x09, 0x02, 0x2F, 0x7F, 0xFF] = some (0x05, 0x09, none) := by decide
theorem test_fuse_slot_of_a_row_entry : encodeSlot (.row 47 32767 7) = #v[0xA5, 0x6F, 0x07, 0x7F, 0xFF, 0x17, 0x5A] := by decide
theorem test_fuse_slot_classes : classify (encodeSlot (.void 47 7)) = .valid (.void 47 7)
    ∧ classify #v[0xA5, 0, 0, 0, 0, 0, 0] = .spoiled ∧ classify (Vector.replicate 7 0) = .blank := by decide
theorem test_columns_of_the_check_code :
    columns = (((List.range 128).map fun n => BitVec.ofNat 7 n).filter fun c => decide (2 ≤ bitsSet c 7)).take 64 := by decide
theorem test_poison_pattern_is_a_code_word : checkByte 0xFFFFFFFF00000000 = 0xE7 ∧ checkWord poisonWord = .uncorrectable := by decide
theorem test_command_table_spells_no_word : decodeTableWord 32 0 = none ∧ up.withFetchWord 32 0 = up := by decide

/-! ### One step of each command -/

theorem test_order_open : (((after (.orderOpen [0x3F, 0x2F, 0x7F, 0xFF]) up).bank 47).lane) = [⟨63, .opn 32767⟩] := by decide
theorem test_order_read : (((after (.orderRead [0x3F, 0x2F, 0x3F]) up).bank 47).lane) = [⟨63, .read 63⟩] := by decide
theorem test_order_write : (after (.orderWrite [0x3F, 0x2F, 0x3F]) up).outbound = [.intakeReject 63 .malformed] := by decide
theorem test_order_close : (((after (.orderClose [0x3F, 0x2F]) up).bank 47).lane) = [⟨63, .close⟩] := by decide
theorem test_order_refresh : (after (.orderRefresh [0x3F, 0x2F]) up).held = [63] := by decide
theorem test_order_report : (after (.orderReport [0x3F, 0x2F, 0x7F, 0xFF, 0x01]) up).reportLane = [report] := by decide
theorem test_unknown_order_frame : ((after (.unknownOrderFrame [0x07]) up).notice .orderFault).detail = some (.fault .malformed none) := by
  decide
theorem test_link_reset : (after (.linkReset [] false) (at47 { BankState.reset with debt := 8 })).outbound = [.ready, .need 47] := by decide
theorem test_outbound_send : (after .outboundSend (queued (.need 47))).linkOut = [[0xC1, 0x2F]] := by decide
theorem test_head_open : (after (.headOpen 47) (at47 (open1 (.opn 0)))).outbound = [.reply 63 (some 47) (.reject .bankOpen)] := by decide
theorem test_head_read : (after (.headRead 47) (at47 { lane1 (.read 0) with revoked := true })).outbound
    = [.reply 63 (some 47) (.reject .revoked)] := by decide
theorem test_head_write : (after (.headWrite 47) (at47 (open1 (.write 63 (Vector.replicate 8 poisonWord))))).readBurst 47 32767 63
    = Vector.replicate 8 poisonWord := by decide
theorem test_head_close : ((after (.headClose 47) (at47 (open1 .close))).bank 47).shadow = .closed := by decide
theorem test_head_refresh : after (.headRefresh 47) (at47 (lane1 .refresh)) = at47 (lane1 .refresh) := by decide
theorem test_order_completion : (after (.orderCompletion 47) (at47 { open1 (.read 0) with inProgress := some (.burst .done) })).outbound
    = [.reply 63 (some 47) .done] := by decide
theorem test_arbiter_choice : ((after (.bankArbiterChoice 47 false) (at47 { withRec .steered with lane := [⟨63, .opn 32767⟩] })).bank 47).shadow
    = .opened 32767 32768 := by decide
theorem test_chunk_job_end :
    ((after .chunkJobEnd (moving { withRec (.migrating none) with shadow := .claimed .copy } (job .copying))).active.map fun a => a.phase)
      = some .switching := by decide
theorem test_final_job_end :
    ((after .finalJobEnd (moving { withRec (.migrating none) with shadow := .claimed .final } (job .final))).bank 47).records.get 0
      = some { row := 32767, state := .steered, origin := .managed, poison := 2 } := by decide
theorem test_tick : ((after (.tick []) (at47 { BankState.reset with debt := 7 })).outbound) = [.need 47] := by decide
theorem test_slot_completion : ((after (.slotCompletion 47) (at47 { BankState.reset with
    shadow := .claimed .sweep, slot := some 4096, pointer := 4096, debt := 1 })).bank 47) = BankState.reset := by decide
theorem test_target_service_end : (after (.targetServiceEnd 47) (at47 { BankState.reset with
    shadow := .claimed .sweep, service := some { left := 0, current := some (32768, 2) } })).stackPort
      = [.refreshRow 47 32769, .refreshRow 47 32770] := by decide
theorem test_aggressor_serviced : ((after (.aggressorServiced 47) (at47 { BankState.reset with
    shadow := .claimed .sweep, service := some { left := 1, current := some (0, 1) }, targets := [32775] })).bank 47).service
      = some { left := 0, current := some (32775, 1) } := by decide
theorem test_report_take : (after .reportTake { up with reportLane := [report], suspectList := [suspect] }).suspectList
    = [{ suspect with corrected := 255, flagged := true }] := by decide
theorem test_status_loading : (after (.status ⟨9, false⟩) State.reset).exchange
    = .answered ([0x00, 0x09, 0x01, 0x00, 0x00, 0x13, 0x01, 0x00] ++ List.replicate 15 0 ++ [0x01, 0x80]) := by decide
theorem test_lookup : (after (.lookup ⟨9, false⟩ 47 0) up).exchange = .answered [0x00, 0x09, 0x02, 0x10, 0x00, 0x00] := by decide
theorem test_list : (after (.listBank ⟨9, false⟩ 47) up).exchange = .answered ([0x00, 0x09, 0x03, 0x00, 0x00, 0x19] ++ List.replicate 25 0) := by decide
theorem test_bank : (after (.bankState ⟨9, false⟩ 47) up).exchange
    = .answered ([0x00, 0x09, 0x04, 0x00, 0x00, 0x13] ++ List.replicate 15 0 ++ [0xFF, 0xFF, 0x00, 0x00]) := by decide
theorem test_steer : ((after (.steer ⟨9, false⟩ 47 0x7FFF) up).bank 47).migClaim = some .copy := by decide
theorem test_release : ((after (.release ⟨9, false⟩ 47 0x7FFF) (at47 (withRec .steered))).bank 47).records.get 0
    = some { row := 32767, state := .returning, origin := .managed, poison := 2 } := by decide
theorem test_seal : (after (.sealRow ⟨9, false⟩ 47 0x7FFF) (at47 (withRec .steered))).programmer = some { slot := 0, entry := .row 47 32767 0 } := by
  decide
theorem test_void : ((after (.voidSpare ⟨9, false⟩ 47 7 0) up).bank 47).spares.get 7 = .bad false := by decide
theorem test_suspects : (after (.suspects ⟨9, false⟩) { up with suspectList := [suspect] }).exchange
    = .answered [0x00, 0x09, 0x09, 0x00, 0x00, 0x07, 0x01, 0x2F, 0x7F, 0xFF, 0xFE, 0x00, 0x00] := by decide
theorem test_forget : (after (.forget ⟨9, false⟩ 47 0x7FFF) { up with suspectList := [suspect] }).suspectList = [] := by decide
theorem test_forget_all : (after (.forgetAll ⟨9, false⟩) { up with suspectList := [suspect] }).exchange
    = .answered [0x00, 0x09, 0x0B, 0x00, 0x00, 0x01, 0x01] := by decide
theorem test_fuse : (after (.fuse ⟨9, false⟩ 63) up).exchange = .answered ([0x00, 0x09, 0x0C, 0x00, 0x00, 0x09] ++ List.replicate 9 0) := by decide
theorem test_set : (after (.setItem ⟨9, false⟩ 1 4095) up).settings.tickInterval = 4095 := by decide
theorem test_get : (after (.getItem ⟨9, false⟩ 3) up).exchange = .answered [0x00, 0x09, 0x0E, 0x00, 0x00, 0x02, 0x08, 0x00] := by decide
theorem test_notice_top : (after (.noticeTop ⟨9, false⟩) up).exchange = .answered ([0x00, 0x09, 0x0F, 0x00, 0x00, 0x1B] ++ List.replicate 27 0) := by
  decide
theorem test_notice_ack : (after (.noticeAck ⟨9, false⟩ 1) (up.raise .refreshMissed (some 47) none (.shadow .closed))).alert = false := by decide
theorem test_mask : (after (.maskKind ⟨9, false⟩ 13 1) up).notice .orderFault = { NoticeEntry.reset with masked := true } := by decide
theorem test_unknown_request : (after (.unknownRequest ⟨[0x12, 0x09, 0x00], false⟩) up).exchange = .answered [0x00, 0x09, 0x12, 0x23, 0x00, 0x00] := by
  decide
theorem test_request_frame_discarded : after (.requestFrameDiscarded [0x01]) up = up := by decide
theorem test_response_read : (after (.responseRead ⟨8, false⟩) up).servicePortOut = [0x01, 0, 0, 0, 0, 0, 0xFF, 0xFF] := by decide
theorem test_late_response : (after (.getItem ⟨9, true⟩ 3) up).exchange
    = .serving [0x0E, 0x09, 0x01, 0x03] [0x00, 0x09, 0x0E, 0x00, 0x00, 0x02, 0x08, 0x00] := by decide
theorem test_read_while_serving : (after (.responseRead ⟨6, true⟩) (after (.getItem ⟨9, true⟩ 3) up)).servicePortOut = [0x02, 0, 0, 0, 0, 0]
    ∧ (after (.responseRead ⟨6, true⟩) (after (.getItem ⟨9, true⟩ 3) up)).exchange = (after (.getItem ⟨9, true⟩ 3) up).exchange := by decide
theorem test_request_while_serving : after (.forgetAll ⟨8, false⟩) (after (.getItem ⟨9, true⟩ 3) up) = after (.getItem ⟨9, false⟩ 3) up := by decide
theorem test_programming_end :
    (after (.programmingEnd (Vector.replicate 7 0)) { up with programmer := some { slot := 63, entry := .void 47 7 } }).image.get 63
      = .spoiled := by decide
theorem test_load_slot_read : ((after (.loadSlotRead (some (encodeSlot (.row 47 32767 7)))) State.reset).bank 47).spares.get 7 = .held := by
  decide
theorem test_loading_precharge_done : ((after (.loadingPrechargeDone 47) State.reset).bank 47).precharged = true := by decide
theorem test_part_reset : after (.partReset 0 0 ⟨0, []⟩) up = { State.reset with part := .reset } := by decide
theorem test_part_reset_release : after .partResetRelease (after (.partReset 0 0 ⟨0, []⟩) up) = State.reset := by decide

/-- A COPY job of chunk 7 abandoned after eighteen of its twenty row operations: all of its reads and seven of its writes are done. -/
theorem test_part_reset_of_a_job :
    let s := moving { BankState.reset with shadow := .claimed .copy } (job .copying)
    let t := after (.partReset 0 0 ⟨18, []⟩) (s.writeBurst 47 32767 63 (Vector.replicate 8 poisonWord))
    t.stackPort = ((job .copying).chunkOps 7).take 18 ∧ t.readBurst 47 32768 62 = Vector.replicate 8 { data := 0, check := checkByte 0 }
      ∧ t.readBurst 47 32768 63 = Vector.replicate 8 { data := 0, check := 0 } := by decide

/-- A slot of bank 47 abandoned with three rows refreshed, and a target service of bank 0 with its one neighbour. -/
theorem test_part_reset_of_refreshes :
    (after (.partReset 0 0 ⟨0, [(47, 3), (0, 2)]⟩) ((at47 { BankState.reset with shadow := .claimed .sweep, slot := some 4096 }).setBank 0
      { BankState.reset with shadow := .claimed .forced, service := some { left := 0, current := some (32767, 1) } })).stackPort
      = [.refreshRow 0 32766, .refreshRow 47 32768, .refreshRow 47 32769, .refreshRow 47 32770] := by decide

/-! ### Hypotheses that are met: the step and the order link -/

/-- A held-order list of n tags, from 0. -/
def tags (n : Nat) : List Tag := (List.finRange 64).take n

theorem test_meets_StepTakesTheFrontCommand :
    ({ up with pending := [Instr.outboundSend, .reportTake] } : State).pending = .outboundSend :: [.reportTake] ∧ up.pending = [] := by decide

theorem test_meets_AcceptedOrderJoinsItsLane :
    let s := { up with held := tags 31 }
    s.part ≠ .reset ∧ s.rejectUnsent = false ∧ s.link = .up ∧ s.held.length < 32 ∧ orderTag (.bank 63 47 .close) ∉ s.held
      ∧ orderTag (.report 31 0 0 .corrected) ∉ s.held := by decide

theorem test_meets_AcceptanceChecks :
    let s := { up with held := tags 31 }
    let full := { up with held := tags 32 }
    let down := { up with link := LinkState.resetting }
    (0x06, Instr.orderReport [0x3F, 0x00]) ∈ knownFrames [0x3F, 0x00] ∧ s.part ≠ .reset ∧ s.rejectUnsent = false
      ∧ down.part ≠ .reset ∧ down.rejectUnsent = false ∧ down.link ≠ .up
      ∧ full.part ≠ .reset ∧ full.rejectUnsent = false ∧ full.link = .up ∧ 32 ≤ full.held.length
      ∧ s.link = .up ∧ s.held.length < 32 ∧ frameTag 0x1E ∈ s.held ∧ frameTag 0x1F ∉ s.held
      ∧ parseOrder 0x06 [0x1F, 0x00] = none
      ∧ (0x06, Instr.orderReport [0x3F, 0x2F, 0x7F, 0xFF]) ∈ knownFrames [0x3F, 0x2F, 0x7F, 0xFF]
      ∧ ([0x2F, 0x7F, 0xFF] : List Byte) = byteOf (47 : Bank).val :: [0x7F, 0xFF]
      ∧ ([0x2F, 0x7F, 0xFF] : List Byte) = 0x2F :: (twoBytes (32767 : LRow).val ++ [])
      ∧ 48 ≤ (0x30 : Byte).toNat ∧ (0x3F : Byte).toNat < 64 ∧ 0x80 ≤ (0x80 : Byte).toNat
      ∧ (0x02, Instr.orderRead [0x3F, 0x00]) ∈ knownFrames [0x3F, 0x00] ∧ (0x02 : Byte) ≠ 0x01 ∧ (0x02 : Byte) ≠ 0x06 := by decide

theorem test_meets_UnknownFrames :
    let down := { up with link := LinkState.down }
    (0x00 : Byte) ≠ kindLinkReset ∧ (0x07 : Byte) ≠ kindLinkReset ∧ ((0x00 : Byte).toNat = 0 ∧ 6 < (0x07 : Byte).toNat)
      ∧ up.part ≠ .reset ∧ up.rejectUnsent = false ∧ up.link = .up ∧ up.held.length < 32 ∧ frameTag 0xFF ∉ up.held
      ∧ down.part ≠ .reset ∧ down.rejectUnsent = false ∧ down.link ≠ .up
      ∧ ({ up with held := (List.finRange 64).take 32 } : State).held.length = 32
      ∧ ({ up with held := [63] } : State).held.length < 32 ∧ frameTag 0xFF ∈ ({ up with held := [63] } : State).held := by decide

theorem test_meets_FramesThatAreNotTaken :
    let s := queued (.intakeReject 63 .full)
    let r := { State.reset with part := PartState.reset }
    let d := { up with link := LinkState.resetting }
    s.part ≠ .reset ∧ s.rejectUnsent = true ∧ r.part = .reset ∧ d.rejectUnsent = false ∧ d.link ≠ .up := by decide

theorem test_meets_LinkResetForgetsTheController :
    let busy := at47 { open1 (.read 0) with inProgress := some (.burst .done) }
    up.part ≠ .reset ∧ up.rejectUnsent = false ∧ up.link = .up ∧ (∀ b : Bank, (up.bank b).burstInProgress = false)
      ∧ busy.part ≠ .reset ∧ busy.rejectUnsent = false ∧ busy.link = .up ∧ (busy.bank 47).burstInProgress = true
      ∧ ((at47 (open1 .close)).bank 47).shadow = .opened 32767 32767 ∧ ((at47 (open1 .close)).bank 47).burstInProgress = false := by decide

theorem test_meets_LinkResetEnds :
    let s := { State.reset with link := LinkState.resetting, banks := Vector.replicate 48 { BankState.reset with reported := true } }.setBank
      47 { open1 (.read 63) with inProgress := some (.burst .done) }
    s.link = .resetting ∧ (s.bank 47).shadow = .opened 32767 32767 ∧ (s.bank 47).inProgress = some (.burst .done)
      ∧ (s.bank 47).lane = ⟨63, .read 63⟩ :: [] ∧ (∀ c : Bank, c ≠ 47 → (s.bank c).reported = true)
      ∧ (∀ c : Bank, OutMsg.need c ∉ s.outbound)
      ∧ ((s.setBank 0 BankState.reset).bank 0).reported = false ∧ ((s.setBank 0 BankState.reset).bank 47) = s.bank 47 := by decide

theorem test_meets_OutboundHeadIsSent :
    let o : Order := .bank 31 47 .close
    let s := { queued (.intakeReject 63 .full) with held := tags 31, waiting := [orderKind o :: orderRest o] }
    (queued (.need 47)).outbound = .need 47 :: [] ∧ (queued (.need 47)).waiting = []
      ∧ s.outbound = .intakeReject 63 .full :: [] ∧ s.waiting = [orderKind o :: orderRest o] ∧ s.link = .up ∧ s.held.length < 32
      ∧ orderTag o ∉ s.held ∧ s.rejectUnsent = true ∧ up.rejectUnsent = false ∧ up.part ≠ .reset
      ∧ (0x04, Instr.orderClose [0x3F, 0x2F]) ∈ knownFrames [0x3F, 0x2F] := by decide

/-- Two frames wait: the first is rejected, and the second goes on waiting behind it. -/
theorem test_waiting_frames :
    let s := { queued (.intakeReject 63 .full) with held := tags 32, waiting := [[0x04, 0x3F, 0x2F], [0x0F]] }
    (after .outboundSend s).outbound = [.intakeReject 63 .full] ∧ (after .outboundSend s).waiting = [[0x0F]]
      ∧ (after .outboundSend { s with waiting := [[0x0F]] }).outbound = [.ready] := by decide

theorem test_meets_FramesThatAreNoRequest :
    let r := { State.reset with part := PartState.reset }
    let v := { up with exchange := Exchange.serving [] [0] }
    up.part ≠ .reset ∧ up.isServing = false ∧ (0x01 : Byte).toNat ≠ ([] : List Byte).length
      ∧ (0x00 : Byte).toNat = ([] : List Byte).length ∧ parseFields 0x12 [] = none ∧ r.part = .reset ∧ v.part ≠ .reset ∧ v.exchange = .serving [] [0]
      ∧ ([0x01, 0x02] : List Byte).length < 3 := by decide

theorem test_meets_ResponseReadClocksOut :
    let r := { State.reset with part := PartState.reset }
    up.part ≠ .reset ∧ up.exchange = .idle ∧ ({ up with exchange := Exchange.serving [] [0] } : State).exchange = .serving [] [0]
      ∧ ({ up with exchange := Exchange.answered [0] } : State).exchange = .answered [0] ∧ r.part = .reset := by decide

/-! ### Hypotheses that are met: bank units and the arbiter -/

theorem test_meets_OpenBankRefusesOpenAndRefresh :
    let s := at47 (open1 (.opn 0))
    let t := at47 (open1 .refresh)
    s.link = .up ∧ (s.bank 47).lane = ⟨63, .opn 0⟩ :: [] ∧ (s.bank 47).inProgress = none ∧ (s.bank 47).shadow = .opened 32767 32767
      ∧ (s.bank 47).forced = false
      ∧ t.link = .up ∧ (t.bank 47).lane = ⟨63, .refresh⟩ :: [] ∧ (t.bank 47).inProgress = none ∧ (t.bank 47).shadow = .opened 32767 32767
      ∧ (t.bank 47).forced = false := by decide

theorem test_meets_ReadAtTheHead :
    let s := at47 (open1 (.read 63))
    let t := at47 { lane1 (.read 63) with shadow := .claimed .forced, forced := true }
    s.link = .up ∧ (s.bank 47).lane = ⟨63, .read 63⟩ :: [] ∧ (s.bank 47).inProgress = none ∧ (s.bank 47).shadow = .opened 32767 32767
      ∧ (s.bank 47).forced = false
      ∧ t.link = .up ∧ (t.bank 47).lane = ⟨63, .read 63⟩ :: [] ∧ (t.bank 47).inProgress = none ∧ (t.bank 47).isOpen = false := by decide

theorem test_meets_WriteAtTheHead :
    let v : Burst := Vector.replicate 8 poisonWord
    let s := at47 (open1 (.write 0 v))
    let t := at47 (lane1 (.write 0 v))
    s.link = .up ∧ (s.bank 47).lane = ⟨63, .write 0 v⟩ :: [] ∧ (s.bank 47).inProgress = none ∧ (s.bank 47).shadow = .opened 32767 32767
      ∧ (s.bank 47).forced = false ∧ s.stackOk
      ∧ t.link = .up ∧ (t.bank 47).lane = ⟨63, .write 0 v⟩ :: [] ∧ (t.bank 47).inProgress = none ∧ (t.bank 47).isOpen = false := by decide

theorem test_meets_CloseAtTheHead :
    let s := at47 (open1 .close)
    let t := at47 { lane1 .close with shadow := .claimed .copy }
    s.link = .up ∧ (s.bank 47).lane = ⟨63, .close⟩ :: [] ∧ (s.bank 47).inProgress = none ∧ (s.bank 47).shadow = .opened 32767 32767
      ∧ (s.bank 47).forced = false
      ∧ t.link = .up ∧ (t.bank 47).lane = ⟨63, .close⟩ :: [] ∧ (t.bank 47).inProgress = none ∧ (t.bank 47).isOpen = false := by decide

theorem test_meets_OrderCompletionHandsTheReply :
    let s := at47 { open1 (.read 0) with inProgress := some (.burst .done) }
    s.link = .up ∧ (s.bank 47).lane = ⟨63, .read 0⟩ :: [] ∧ (s.bank 47).inProgress = some (.burst .done) ∧ (s.bank 47).forced = false := by
  decide

theorem test_meets_RevocationFollowsTheOrder :
    let s := at47 { open1 (.read 0) with inProgress := some (.burst .done), forced := true }
    s.link = .up ∧ (s.bank 47).lane = ⟨63, .read 0⟩ :: [] ∧ (s.bank 47).inProgress = some (.burst .done)
      ∧ (s.bank 47).shadow = .opened 32767 32767 ∧ (s.bank 47).forced = true := by decide

theorem test_meets_WhatWaitsChangesNothing :
    ((at47 (lane1 .refresh)).bank 47).isOpen = false
      ∧ ((at47 { open1 .close with forced := true }).bank 47).isOpen = true ∧ ((at47 { open1 .close with forced := true }).bank 47).forced = true
      ∧ ((at47 (open1 .close)).bank 47).shadow ≠ .closed
      ∧ ((at47 { lane1 .refresh with inProgress := some .sweeping }).bank 47).inProgress ≠ none
      ∧ ((at47 (lane1 .close)).bank 47).forced = false ∧ ((at47 (lane1 .close)).bank 47).migClaim = none
      ∧ ((at47 (lane1 .close)).bank 47).laneAsks = false := by decide

theorem test_meets_ForcedClaimIsChosenFirst :
    let s := at47 { lane1 .refresh with forced := true, migClaim := some .copy, passover := 15 }
    (s.bank 47).shadow = .closed ∧ (s.bank 47).inProgress = none ∧ (s.bank 47).forced = true := by decide

theorem test_meets_RefreshIsGranted_and_OpenIsServed :
    let s := at47 { lane1 .refresh with migClaim := some .copy, passover := 3 }
    let t := at47 { lane1 (.opn 32767) with migClaim := some .copy, claimNew := true, passover := 15 }
    (s.bank 47).shadow = .closed ∧ (s.bank 47).inProgress = none ∧ (s.bank 47).forced = false ∧ (s.bank 47).lane = ⟨63, .refresh⟩ :: []
      ∧ ((s.bank 47).migClaim.isSome && !(false && (s.bank 47).claimNew)) = true ∧ (s.bank 47).passover < s.settings.passoverLimit
      ∧ t.link = .up ∧ (t.bank 47).shadow = .closed ∧ (t.bank 47).inProgress = none ∧ (t.bank 47).forced = false
      ∧ (t.bank 47).lane = ⟨63, .opn 32767⟩ :: [] ∧ ((t.bank 47).migClaim.isSome && !(true && (t.bank 47).claimNew)) = false := by decide

theorem test_meets_LookupFollowsTheRecord :
    BankState.reset.tableOk ∧ BankState.reset.noRecord 32767
      ∧ ∀ st ∈ [RecState.migrating none, .migrating (some (7, true)), .steered, .sealing 63, .fused 63, .returning],
          (withRec st).tableOk ∧ (withRec st).records.get 0 = some { row := 32767, state := st, origin := .managed, poison := 2 } :=
  ⟨by decide, BankState.recOf_eq_none.mp (by decide), by decide⟩

/-! ### Hypotheses that are met: the migration engine -/

/-- A job in its recopy pass with chunk 7 flagged. -/
def recopy : Active := { job .recopying with mask := (Vector.replicate 8 false).set 7 true, passPos := some 6 }

theorem test_meets_MigrationClaimIsGranted :
    let s := moving { BankState.reset with migClaim := some .copy } (job .copying)
    let t := moving { lane1 .refresh with migClaim := some .copy, passover := 4 } recopy
    let u := moving { BankState.reset with migClaim := some .final } (job .final)
    (s.bank 47).shadow = .closed ∧ (s.bank 47).inProgress = none ∧ (s.bank 47).forced = false ∧ (s.bank 47).laneAsks = false
      ∧ s.active = some (job .copying) ∧ (job .copying).bank = 47 ∧ (s.bank 47).migClaim = some .copy ∧ (job .copying).phase = .copying
      ∧ (t.bank 47).shadow = .closed ∧ (t.bank 47).inProgress = none ∧ (t.bank 47).forced = false
      ∧ t.settings.passoverLimit ≤ (t.bank 47).passover ∧ t.active = some recopy ∧ (t.bank 47).migClaim = some .copy
      ∧ recopy.phase = .recopying ∧ recopy.mask.get 7 = true ∧ recopy.passPos = some 6
      ∧ (∀ i : Chunk, i < 7 → recopy.mask.get i = false)
      ∧ (u.bank 47).migClaim = some .final ∧ (u.bank 47).laneAsks = false := by decide

theorem test_meets_SwitchIsTaken_of_a_move :
    ∀ st ∈ [RecState.migrating none, .migrating (some (7, true)), .migrating (some (7, false))],
      let s := moving { withRec st with migClaim := some .switch } (job .switching)
      (s.bank 47).shadow = .closed ∧ (s.bank 47).inProgress = none ∧ (s.bank 47).forced = false ∧ s.active = some (job .switching)
        ∧ (s.bank 47).laneAsks = false ∧ (s.bank 47).migClaim = some .switch ∧ (∀ k : Chunk, (job .switching).mask.get k = false)
        ∧ (s.bank 47).tableOk
        ∧ (s.bank 47).records.get 0 = some { row := (job .switching).row, state := st, origin := .managed, poison := 2 } := by decide

/-- The context of a return of row 32767 of bank 47 from spare 0. -/
def back (p : Phase) : Active := { job p with kind := .ret, source := 32768, dest := 32767 }

theorem test_meets_SwitchIsTaken_of_a_return :
    let t := moving { withRec .returning with migClaim := some .switch, lane := [⟨0, .refresh⟩], passover := 15 } (back .switching)
    (t.bank 47).shadow = .closed ∧ (t.bank 47).inProgress = none ∧ (t.bank 47).forced = false ∧ t.active = some (back .switching)
      ∧ t.settings.passoverLimit ≤ (t.bank 47).passover ∧ (t.bank 47).migClaim = some .switch
      ∧ (∀ k : Chunk, (back .switching).mask.get k = false) ∧ (t.bank 47).tableOk ∧ (back .switching).kind = .ret
      ∧ (t.bank 47).records.get 0 = some { row := (back .switching).row, state := .returning, origin := .managed, poison := 2 } := by decide

theorem test_meets_FailedMaskCheck :
    let a : Active := { recopy with phase := .switching }
    let s := moving { BankState.reset with migClaim := some .switch } a
    (s.bank 47).shadow = .closed ∧ (s.bank 47).inProgress = none ∧ (s.bank 47).forced = false ∧ s.active = some a ∧ a.bank = 47
      ∧ (s.bank 47).laneAsks = false ∧ (s.bank 47).migClaim = some .switch ∧ a.mask.get 7 = true := by decide

theorem test_meets_ChunkJobCopiesItsChunk_and_EngineAfterAChunkJob :
    let a : Active := { recopy with passPos := some 7 }
    (∀ c : Active × Chunk, c = (job .copying, 7) ∨ c = (a, 7) →
      let s := moving { BankState.reset with shadow := .claimed .copy } c.1
      s.stackOk ∧ s.active = some c.1 ∧ (s.bank c.1.bank).shadow = .claimed .copy ∧ c.1.chunk = some c.2 ∧ c.1.abort = false
        ∧ (chunkCols 7).map Fin.val = (List.range 8).map (fun i => 8 * c.2.val + i)) := by
  rintro a c (rfl | rfl) <;> decide

theorem test_meets_AbortAfterAChunkJob :
    let a : Active := { job .copying with abort := true }
    ∀ st ∈ [RecState.migrating none, .migrating (some (7, true))],
      let s := moving { withRec st with shadow := .claimed .copy } a
      s.active = some a ∧ (s.bank 47).shadow = .claimed .copy ∧ a.chunk = some 7 ∧ a.abort = true
        ∧ (s.bank 47).migClaim = none ∧ (s.bank 47).tableOk
        ∧ (s.bank 47).records.get 0 = some { row := a.row, state := st, origin := .managed, poison := 2 } := by decide

theorem test_meets_FinalJobCopiesAndSwitches_of_a_move :
    let a : Active := { recopy with phase := .final }
    let s := moving { withRec (.migrating (some (7, true))) with shadow := .claimed .final } a
    s.stackOk ∧ s.active = some a ∧ (s.bank a.bank).shadow = .claimed .final ∧ a.source ≠ a.dest
      ∧ (s.bank a.bank).tableOk ∧ a.kind = .move ∧ a.mask.get (chunkOf 63) = true
      ∧ (s.bank a.bank).records.get 0 = some { row := a.row, state := .migrating (some (7, true)), origin := .managed, poison := 2 } := by decide

theorem test_meets_FinalJobCopiesAndSwitches_of_a_return :
    let t := moving { withRec .returning with shadow := .claimed .final } (back .final)
    t.stackOk ∧ t.active = some (back .final) ∧ (t.bank 47).shadow = .claimed .final
      ∧ (back .final).source ≠ (back .final).dest ∧ (t.bank 47).tableOk ∧ (back .final).kind = .ret
      ∧ (t.bank 47).records.get 0 = some { row := (back .final).row, state := .returning, origin := .managed, poison := 2 } := by decide

theorem test_meets_JobJoinsTheQueue :
    (moving BankState.reset (job .copying)).active ≠ none ∧ up.migQueue = []
      ∧ ∀ st ∈ [RecState.migrating none, .migrating (some (7, true)), .returning],
          let s := { at47 (withRec st) with migQueue := (47, 32767) :: fullQueue.take 7 }
          (s.bank 47).tableOk ∧ s.active = none ∧ s.migQueue = (47, 32767) :: fullQueue.take 7
            ∧ (s.bank 47).records.get 0 = some { row := 32767, state := st, origin := .managed, poison := 2 } := by decide

/-- A switch that ends a job with another one pending: the engine takes it. -/
theorem test_next_job_is_taken :
    let s := { moving { withRec (.migrating none) with migClaim := some .switch } (job .switching) with migQueue := [(0, 32767)] }
    let t := after (.bankArbiterChoice 47 false) (s.setBank 0 (withRec .returning))
    (t.active.map fun a => (a.bank, a.kind)) = some (0, .ret) ∧ t.migQueue = [] ∧ (t.bank 0).migClaim = some .copy := by decide

/-! ### Hypotheses that are met: the refresh unit, the tracker and reports -/

theorem test_meets_TickRaisesEveryDebt :
    let s := at47 { open1 .close with debt := 11, inProgress := none }
    let m := at47 { BankState.reset with debt := 12 }
    s.timer ≠ none ∧ m.timer ≠ none ∧ 12 ≤ (m.bank 47).debt ∧ (s.bank 47).debt < 12 ∧ (s.bank 47).debt = 11
      ∧ (s.bank 47).forced = false ∧ (s.bank 47).isOpen = true ∧ (s.bank 47).inProgress = none ∧ (s.bank 0).debt < 12
      ∧ ([] : List Bank).dedup ++ (allBanks.filter fun b => b ∉ ([] : List Bank)) = allBanks.take 47 ++ 47 :: []
      ∧ (∀ c : Bank, ¬ 12 ≤ (s.bank c).debt) ∧ (∀ c : Bank, (m.bank c).isOpen = false) ∧ (s.bank 47).shadow = .opened 32767 32767 := by decide

/-- A tick revokes the open row of bank 47 and misses the refresh of bank 0. -/
theorem test_tick_revokes :
    let t := after (.tick [47]) ((at47 { open1 .close with debt := 11 }).setBank 0 { BankState.reset with debt := 12 })
    t.outbound = [.lost 47, .need 47] ∧ (t.notice .rowRevoked).detail = some (.phys 32767) ∧ (t.notice .refreshMissed).bank = some 0
      ∧ t.stackPort = [.precharge 47 32767] := by decide

theorem test_meets_SlotCompletes :
    let x : BankState := { BankState.reset with slot := some 4096, pointer := 4096, shadow := .claimed .sweep }
    let s := at47 { x with inProgress := some .sweeping, lane := [⟨63, .refresh⟩] }
    (s.bank 47).slot = some 4096 ∧ (s.bank 47).targets = [] ∧ (s.bank 47).shadow = .claimed .sweep
      ∧ (s.bank 47).inProgress = some .sweeping ∧ (s.bank 47).lane = ⟨63, .refresh⟩ :: [] ∧ s.link = .up
      ∧ ((at47 x).bank 47).slot = some 4096 ∧ ((at47 x).bank 47).inProgress = none ∧ ((at47 x).bank 47).shadow = .claimed .sweep
      ∧ ((at47 { x with shadow := .claimed .forced }).bank 47).shadow = .claimed .forced
      ∧ ((at47 { x with targets := [0] }).bank 47).targets = 0 :: [] ∧ 0 < (at47 { x with targets := [0] }).settings.targetsPerRef := by decide

theorem test_meets_TargetServiceRuns :
    let x : BankState := { BankState.reset with service := some { left := 1, current := some (32775, 2) }, targets := [0], shadow := .claimed .sweep }
    let s := at47 { x with inProgress := some .sweeping, lane := [⟨63, .refresh⟩] }
    (s.bank 47).service = some { left := 1, current := some (32775, 2) } ∧ (s.bank 47).targets = 0 :: [] ∧ (s.bank 47).shadow = .claimed .sweep
      ∧ (s.bank 47).inProgress = some .sweeping ∧ (s.bank 47).lane = ⟨63, .refresh⟩ :: [] ∧ s.link = .up
      ∧ ((at47 x).bank 47).inProgress = none ∧ ((at47 { x with targets := [] }).bank 47).targets = []
      ∧ ((at47 { x with shadow := .claimed .forced }).bank 47).shadow = .claimed .forced
      ∧ ((at47 { x with service := some { left := 0, current := none } }).bank 47).service = some { left := 0, current := none } := by decide

/-- A full tracker with two smallest counts. -/
def fullTracker : BankState :=
  { BankState.reset with tracker := #v[some ⟨0, 64⟩, some ⟨1, 63⟩, some ⟨2, 63⟩, some ⟨3, 64⟩, some ⟨4, 64⟩, some ⟨5, 64⟩] }

theorem test_meets_TrackerCountsAnActivation :
    (64 : Nat) ≤ 64 ∧ fullTracker.trackerOk ∧ fullTracker.tracker.get 1 = some { row := 1, count := 63 }
      ∧ (fullTracker.counted 64 1).targets = [1] ∧ (fullTracker.counted 64 7).tracker.get 1 = some { row := 7, count := 0 }
      ∧ BankState.reset.trackerOk ∧ BankState.reset.tracker.get 0 = none
      ∧ (∀ i : Fin 6, ((fullTracker.tracker.get i).all fun e => decide (e.row ≠ 7)) = true)
      ∧ (∀ j : Fin 6, ((fullTracker.tracker.get j).any fun f => decide (63 ≤ f.count) && (!decide (j < 1) || decide (63 < f.count))) = true)
      ∧ (64 : Nat) ≤ up.settings.threshold := by
  decide

/-- A refused offer, of an entry and of a replacement, and an accepted one. -/
theorem test_target_overflow :
    let s := { at47 { fullTracker with targets := [9, 10, 11, 12] } with settings := { Settings.reset with threshold := 64 } }
    ((s.track 47 1).notice .targetOverflow).detail = some (.phys 1) ∧ ((s.track 47 7).notice .targetOverflow).count = 1
      ∧ ((s.setBank 47 fullTracker).track 47 1).alert = false ∧ (s.bank 47).trackerOk := by decide

theorem test_meets_RowsThatAreRefreshed : neighbours 2 32767 = [32765, 32766] ∧ neighbours 1 32768 = [32769] ∧ neighbours 2 1 = [0, 2, 3]
    ∧ neighbours 2 2 = [0, 1, 3, 4] ∧ neighbours 2 32765 = [32763, 32764, 32766, 32767]
    ∧ neighbours 2 32770 = [32768, 32769, 32771, 32772] ∧ neighbours 2 32773 = [32771, 32772, 32774, 32775]
    ∧ slotRows 4096 = [32768, 32769, 32770, 32771, 32772, 32773, 32774, 32775] := by decide

/-- A suspect of bank 0. -/
def other : Suspect := { suspect with bank := 0 }

/-- Thirty-one suspects of bank 0. -/
def others : List Suspect := List.replicate 31 other

theorem test_meets_ReportIsCounted_of_a_record :
    let e : Suspect := { suspect with corrected := 14 }
    let s := { up with reportLane := [report], suspectList := others ++ [e] }
    s.reportLane = report :: [] ∧ s.link = .up ∧ s.suspectList.length ≤ 32 ∧ s.suspectList = others ++ e :: []
      ∧ e.bank = report.bank ∧ e.row = report.row ∧ (∀ f ∈ others ++ [], ¬ (f.bank = report.bank ∧ f.row = report.row))
      ∧ min 255 (e.corrected + 1) < s.settings.correctedThr ∧ e.uncorrected < s.settings.uncorrectedThr :=
  ⟨rfl, rfl, by decide, rfl, rfl, rfl, by decide, by decide, by decide⟩

theorem test_meets_ReportIsCounted_without_a_record :
    let t := { up with reportLane := [report], suspectList := others ++ [other] }
    t.reportLane = report :: [] ∧ t.link = .up ∧ t.suspectList.length ≤ 32
      ∧ (∀ f ∈ t.suspectList, ¬ (f.bank = report.bank ∧ f.row = report.row))
      ∧ 1 < t.settings.correctedThr ∧ 0 < t.settings.uncorrectedThr ∧ t.suspectList = others ++ [other] ∧ others.length = 31
      ∧ ({ t with suspectList := others } : State).suspectList.length < 32 :=
  ⟨rfl, rfl, by decide, by decide, by decide, by decide, rfl, by decide, by decide⟩

theorem test_meets_ReportIsEvaluated :
    let on := fun (x : BankState) => ({ at47 x with
      reportLane := [report], suspectList := others ++ [suspect], settings := { Settings.reset with autoSteer := true } } : State)
    ({ on BankState.reset with settings := Settings.reset } : State).settings.autoSteer = false
      ∧ (∀ g ∈ others ++ [], ¬ (g.bank = report.bank ∧ g.row = report.row))
      ∧ (∀ st ∈ [RecState.fused 63, .migrating none, .returning, .sealing 63, .steered],
          (on (withRec st)).reportLane = report :: [] ∧ (on (withRec st)).link = .up ∧ (on (withRec st)).suspectList = others ++ suspect :: []
            ∧ suspect.bank = report.bank ∧ suspect.row = report.row ∧ (on (withRec st)).suspectList.length ≤ 32
            ∧ (on (withRec st)).settings.correctedThr ≤ min 255 (suspect.corrected + 1) ∧ (on (withRec st)).settings.autoSteer = true
            ∧ ((on (withRec st)).bank 47).tableOk
            ∧ ((on (withRec st)).bank 47).records.get 0 = some { row := report.row, state := st, origin := .managed, poison := 2 })
      ∧ (withRec .steered).lowestFree 1 ∧ (on (withRec .steered)).migQueue.length < 8
      ∧ BankState.reset.lowestFree 0 ∧ BankState.reset.noRecord report.row
      ∧ (∀ d : Spare, (noSpare .steered).spares.get d ≠ .free) ∧ (noSpare .steered).tableOk
      ∧ 8 ≤ ({ on (withRec .steered) with migQueue := fullQueue } : State).migQueue.length := by
  refine ⟨by decide, by decide, by decide, by unfold BankState.lowestFree; decide, by decide, by unfold BankState.lowestFree; decide,
    BankState.recOf_eq_none.mp (by decide), by decide, by decide, by decide⟩

/-- A first UNCORRECTED report of a row, at the reset threshold of 1, into a full list and into one with room. -/
theorem test_meets_ReportIsEvaluated_of_a_new_record :
    let r : Report := { report with kind := .uncorrected }
    let s := { up with reportLane := [r], suspectList := others ++ [other] }
    s.reportLane = r :: [] ∧ s.link = .up ∧ s.suspectList.length ≤ 32 ∧ (∀ g ∈ s.suspectList, ¬ (g.bank = r.bank ∧ g.row = r.row))
      ∧ s.suspectList = others ++ [other] ∧ others.length = 31 ∧ ({ s with suspectList := others } : State).suspectList.length < 32
      ∧ s.settings.uncorrectedThr ≤ 1 ∧ s.settings.autoSteer = false
      ∧ (after .reportTake s).suspectList = { suspect with corrected := 0, uncorrected := 1, flagged := true } :: others
      ∧ ((after .reportTake s).notice .suspectEvicted).count = 1 :=
  ⟨rfl, rfl, by decide, by decide, rfl, by decide, by decide, by decide, rfl, by decide, by decide⟩

/-! ### Hypotheses that are met: service requests and the notice table -/

theorem test_serves_changing (s : State) (xn : Byte) (q : Request) (h1 : s.part = .running) (h2 : s.isServing = false)
    (h3 : (s.repeats xn q).isNone = true) : s.serves xn q := ⟨h1, h2, Option.isNone_iff_eq_none.mp h3⟩

theorem test_meets_ReadRequestsAnswer :
    State.reset.isServing = false ∧ State.reset.part = .loading ∧ up.isServing = false ∧ up.part = .running ∧ itemOf 10 = some .recopyLimit
      ∧ (withRec (.migrating (some (7, true)))).tableOk ∧ (withRec (.migrating (some (7, true)))).spares.get 1 = .free
      ∧ (withRec (.migrating (some (7, true)))).records.get 0 = some {
          row := 32767, state := .migrating (some (7, true)), origin := .managed, poison := 2 }
      ∧ (noSpare .steered).spares.get 7 = .bad false := by decide

theorem test_meets_ReadRequestsAnswer_of_a_key :
    let s := { at47 (withRec .returning) with migQueue := [(0, 0), (47, 32767)], suspectList := others ++ [suspect] }
    up.listsOk ∧ (up.bank 47).tableOk ∧ (up.bank 47).noRecord 0 ∧ (47, 0) ∉ up.migQueue ∧ (∀ e ∈ up.suspectList, ¬ (e.bank = 47 ∧ e.row = 0))
      ∧ ({ s with suspectList := [other, suspect] } : State).listsOk ∧ (s.bank 47).tableOk
      ∧ (s.bank 47).records.get 0 = some { row := 32767, state := .returning, origin := .managed, poison := 2 }
      ∧ s.migQueue = [(0, 0)] ++ (47, 32767) :: [] ∧ (47, 32767) ∉ ([(0, 0)] : List (Bank × LRow))
      ∧ s.suspectList = others ++ suspect :: [] ∧ suspect.bank = 47 ∧ suspect.row = 32767 :=
  ⟨by decide, by decide, BankState.recOf_eq_none.mp (by decide), by decide, by decide, by decide, by decide, by decide, rfl, by decide,
    rfl, rfl, rfl⟩

theorem test_lookup_of_all_it_can_find :
    (after (.lookup ⟨9, false⟩ 47 0x7FFF) { at47 (withRec .returning) with
      migQueue := [(0, 0), (47, 32767)], suspectList := [other, suspect] }).exchange
      = .answered [0x00, 0x09, 0x02, 0x00, 0x00, 0x13, 0x07, 0x2F, 0x7F, 0xFF, 0x05, 0x00, 0x00, 0x00, 0x01, 0x02, 0x00, 0x02,
          0x2F, 0x7F, 0xFF, 0xFE, 0x00, 0x00, 0x02] := by decide
theorem test_list_of_a_re_steer :
    (after (.listBank ⟨9, false⟩ 47) (at47 (withRec (.migrating (some (7, true)))))).exchange
      = .answered ([0x00, 0x09, 0x03, 0x00, 0x00, 0x23, 0x01, 0x2F, 0x7F, 0xFF, 0x01, 0x00, 0x05, 0x07, 0x01, 0x02, 0x00, 0x01, 0x7F, 0xFF]
          ++ List.replicate 18 0 ++ [0x09, 0x7F, 0xFF]) := by decide
theorem test_status_running :
    (after (.status ⟨9, false⟩) { moving { withRec (.migrating none) with migClaim := some .copy } recopy with
      summary := { LoadSummary.reset with nextFree := some 0 } }).exchange
      = .answered ([0x00, 0x09, 0x01, 0x00, 0x00, 0x3D, 0x02, 0x02, 0x00, 0x00, 0x00, 0x00, 0x00, 0x01, 0x00, 0x00, 0x00, 0x00, 0x00, 0x00,
          0x00, 0x00, 0x01, 0x7F, 0x00, 0x00, 0x02, 0x00, 0x01, 0x2F, 0x7F, 0xFF, 0x00, 0x7F, 0xFF, 0x80, 0x00, 0x08, 0x00, 0x00, 0x00, 0x00, 0x00,
          0x00, 0x00, 0x01, 0x01, 0x06, 0x00, 0x00, 0xFF, 0xFF, 0x01, 0x00] ++ [0x00, 0x00, 0x00, 0x01, 0x00, 0x01, 0x00]
          ++ [0x00, 0x00, 0x00, 0x00, 0x00, 0x00]) := by decide

theorem test_meets_PortChecksRefuse :
    let q : Request := .steer 47 0x7FFF
    let l : LastChanging := { code := q.code, xn := 9, fields := q.fields, result := .noSpare, contents := [] }
    let s := { up with lastChanging := some l }
    ({ State.reset with part := PartState.reset } : State).part = .reset ∧ ({ up with exchange := Exchange.serving [] [0] } : State).exchange = .serving [] [0] ∧ up.part ≠ .reset
      ∧ State.reset.isServing = false ∧ State.reset.part = .loading ∧ q ≠ .status
      ∧ s.isServing = false ∧ s.part = .running ∧ s.lastChanging = some l ∧ q.changing = true ∧ l.code = q.code ∧ l.xn = 9 ∧ l.fields = q.fields
      ∧ s.repeats 8 q = none ∧ up.repeats 9 (.steer 48 0) = none ∧ badAddress (.steer 48 0) = true ∧ badAddress (.steer 47 0x8000) = true
      ∧ badAddress (.void 47 7 2) = false ∧ badValue (.void 47 7 2) = true ∧ badAddress (.set 3 63) = false ∧ badValue (.set 3 63) = true := by
  decide

theorem test_meets_SteerRequest :
    let q : Request := .steer (bankByte 47) (rowWord 32767)
    up.serves 9 q ∧ (up.bank 47).tableOk ∧ (up.bank 47).noRecord 32767 ∧ (up.bank 47).lowestFree 0 ∧ up.migQueue.length < 8
      ∧ (∀ st ∈ [RecState.steered, .fused 63, .migrating none, .returning, .sealing 63],
          ((at47 (withRec st)).serves 9 q) ∧ ((at47 (withRec st)).bank 47).tableOk
            ∧ ((at47 (withRec st)).bank 47).records.get 0 = some { row := 32767, state := st, origin := .managed, poison := 2 })
      ∧ (withRec .steered).lowestFree 1
      ∧ (∀ d : Spare, (noSpare .steered).spares.get d ≠ .free) ∧ (noSpare .steered).tableOk
      ∧ (∃ d : Spare, (withRec .steered).spares.get d = .free) ∧ 8 ≤ fullQueue.length :=
  ⟨test_serves_changing _ _ _ (by decide) (by decide) (by decide), by decide, BankState.recOf_eq_none.mp (by decide),
    by unfold BankState.lowestFree; decide, by decide, by unfold State.serves; decide, by unfold BankState.lowestFree; decide, by decide, by decide,
    by decide, by decide⟩

theorem test_meets_ReleaseRequest :
    let q : Request := .release (bankByte 47) (rowWord 32767)
    up.serves 9 q ∧ (up.bank 47).tableOk ∧ (up.bank 47).noRecord 32767
      ∧ (∀ st ∈ [RecState.migrating none, .migrating (some (7, true)), .steered, .fused 63, .returning, .sealing 63],
          (at47 (withRec st)).serves 9 q ∧ ((at47 (withRec st)).bank 47).tableOk ∧ (at47 (withRec st)).active = none
            ∧ ((at47 (withRec st)).bank 47).records.get 0 = some { row := 32767, state := st, origin := .managed, poison := 2 })
      ∧ (∀ a ∈ [{ job .copying with abort := true }, job .switching, job .final],
          (moving (withRec (.migrating none)) a).serves 9 q ∧ (moving (withRec (.migrating none)) a).active = some a ∧ a.bank = 47 ∧ a.row = 32767
            ∧ (a.abort = true ∨ a.phase = .switching ∨ a.phase = .final))
      ∧ ((moving { withRec (.migrating none) with shadow := .claimed .copy } (job .copying)).bank 47).shadow = .claimed .copy
      ∧ up.migQueue.length < 8 ∧ 8 ≤ fullQueue.length :=
  ⟨test_serves_changing _ _ _ (by decide) (by decide) (by decide), by decide, BankState.recOf_eq_none.mp (by decide),
    by unfold State.serves; decide, by unfold State.serves; decide, by decide, by decide, by decide⟩

theorem test_meets_ReleaseAbortsAWaitingJob :
    ∀ st ∈ [RecState.migrating none, .migrating (some (7, true))], ∀ a ∈ [job .copying, recopy],
      let s := moving { withRec st with migClaim := some .copy } a
      s.serves 9 (.release (bankByte 47) (rowWord 32767)) ∧ (s.bank 47).tableOk
        ∧ (s.bank 47).records.get 0 = some { row := 32767, state := st, origin := .managed, poison := 2 } ∧ s.active = some a ∧ a.bank = 47
        ∧ a.row = 32767 ∧ a.abort = false ∧ (a.phase = .copying ∨ a.phase = .recopying) ∧ (s.bank 47).shadow ≠ .claimed .copy
        ∧ (s.bank 47).migClaim = some .copy ∧ s.migQueue = [] := by
  unfold State.serves
  decide

theorem test_meets_SealRequest :
    let q : Request := .seal (bankByte 47) (rowWord 32767)
    let p : Programming := { slot := 0, entry := .void 0 0 }
    up.serves 9 q ∧ (up.bank 47).tableOk ∧ (up.bank 47).noRecord 32767
      ∧ (∀ st ∈ [RecState.migrating none, .returning, .sealing 63, .fused 63, .steered],
          (at47 (withRec st)).serves 9 q ∧ ((at47 (withRec st)).bank 47).tableOk
            ∧ ((at47 (withRec st)).bank 47).records.get 0 = some { row := 32767, state := st, origin := .managed, poison := 2 })
      ∧ ({ at47 (withRec .steered) with programmer := some p } : State).programmer ≠ none
      ∧ (at47 (withRec .steered)).programmer = none ∧ 64 ≤ ({ at47 (withRec .steered) with nextFree := 64 } : State).nextFree
      ∧ ({ at47 (withRec .steered) with nextFree := 63 } : State).nextFree = (63 : FuseNo).val :=
  ⟨test_serves_changing _ _ _ (by decide) (by decide) (by decide), by decide, BankState.recOf_eq_none.mp (by decide),
    by unfold State.serves; decide, by decide, by decide, by decide, by decide⟩

theorem test_meets_VoidRequest :
    ∀ v ∈ [SpareState.held, .free, .bad false, .bad true], ∀ flag ∈ [false, true],
      let s := at47 { BankState.reset with spares := BankState.reset.spares.set 7 v }
      s.serves 9 (.void (bankByte 47) (byteOf 7) (flagByte flag)) ∧ (s.bank 47).spares.get 7 = v ∧ s.programmer = none
        ∧ ({ s with nextFree := 63 } : State).nextFree = (63 : FuseNo).val := by
  unfold State.serves
  decide

theorem test_meets_ForgetAndSetRequests :
    let s := { up with suspectList := others ++ [suspect] }
    s.serves 9 (.forget (bankByte 47) (rowWord 32767)) ∧ s.suspectList = others ++ suspect :: [] ∧ suspect.bank = 47
      ∧ suspect.row = 32767 ∧ (∀ f ∈ others ++ [], ¬ (f.bank = 47 ∧ f.row = 32767))
      ∧ (∀ f ∈ up.suspectList, ¬ (f.bank = 47 ∧ f.row = 32767)) ∧ s.serves 9 .forgetAll
      ∧ itemOf 1 = some .tickInterval ∧ Item.inRange .tickInterval (4095#16).toNat = true ∧ up.serves 9 (.set 1 4095) :=
  ⟨by unfold State.serves; decide, rfl, rfl, rfl, by decide, by decide, by unfold State.serves; decide, by decide, by decide,
    by unfold State.serves; decide⟩

theorem test_meets_NoticeRequests :
    let s := up.raise .refreshMissed (some 47) none (.shadow .closed)
    kindOf 1 = some .refreshMissed ∧ kindOf 13 = some .orderFault ∧ (1 : Byte) = flagByte true ∧ s.serves 9 (.noticeAck 1)
      ∧ (s.notice .refreshMissed).pending = true ∧ (up.notice .orderFault).pending = false ∧ up.serves 9 (.noticeAck 13)
      ∧ up.serves 9 (.mask 13 1) := by
  unfold State.serves
  decide

/-! ### Hypotheses that are met: the fuse store and the part state -/

theorem test_meets_ProgrammingEnds :
    let s := { at47 (withRec (.sealing 63)) with programmer := some { slot := 63, entry := .row 47 32767 0 } }
    let t := { up with programmer := some { slot := 63, entry := FuseEntry.void 47 7 } }
    s.programmer = some { slot := 63, entry := .row 47 32767 0 } ∧ (s.bank 47).tableOk
      ∧ (s.bank 47).records.get 0 = some { row := 32767, state := .sealing 63, origin := .managed, poison := 2 }
      ∧ classify (encodeSlot (.row 47 32767 0)) = .valid (.row 47 32767 0) ∧ classify (Vector.replicate 7 0) ≠ .valid (.row 47 32767 0)
      ∧ t.programmer = some { slot := 63, entry := .void 47 7 } ∧ classify (encodeSlot (.void 47 7)) = .valid (.void 47 7)
      ∧ classify (encodeSlot (.void 47 6)) ≠ .valid (.void 47 7) := by decide

theorem test_meets_LoadReadsASlot :
    let s := { State.reset with loadPos := 62 }
    let taken := s.setBank 47 (withRec (.fused 0))
    s.part = .loading ∧ s.loadPos = (62 : FuseNo).val ∧ (62 : FuseNo).val < 63
      ∧ classify ((none : Option FuseBytes).getD (s.fuses.get 62)) = .blank
      ∧ classify ((some (#v[0xA5, 0, 0, 0, 0, 0, 0] : FuseBytes)).getD (s.fuses.get 62)) = .spoiled
      ∧ classify ((some (encodeSlot (.row 47 32767 0))).getD (s.fuses.get 62)) = .valid (.row 47 32767 0)
      ∧ (s.bank 47).noRecord 32767 ∧ (s.bank 47).spares.get 0 = .free
      ∧ (taken.bank 47).records.get 0 = some { row := 32767, state := .fused 0, origin := .managed, poison := 2 }
      ∧ (taken.bank 47).spares.get 0 ≠ .free
      ∧ classify ((some (encodeSlot (.void 47 0))).getD (s.fuses.get 62)) = .valid (.void 47 0) :=
  ⟨by decide, by decide, by decide, by decide, by decide, by decide, BankState.recOf_eq_none.mp (by decide), by decide, by decide,
    by decide, by decide⟩

theorem test_meets_LoadEnds_by_a_precharge :
    let s := { State.reset with loadPos := 64, banks := Vector.replicate 48 { BankState.reset with precharged := true } }.setBank 47 BankState.reset
    s.part = .loading ∧ (s.bank 47).precharged = false ∧ s.loadPos = 64 ∧ (∀ c : Bank, c ≠ 47 → (s.bank c).precharged = true)
      ∧ (State.reset.bank 47).precharged = false ∧ State.reset.loadPos ≠ 64 ∧ (s.bank 0).precharged = true := by decide

/-- Slot 63 reads as each class; its image then fixes the next-free value, here 0 and 64. -/
theorem test_meets_LoadEnds_by_slot_63 :
    let t := { State.reset with loadPos := 63 }
    let taken := t.setBank 47 (withRec (.fused 0))
    t.part = .loading ∧ t.loadPos = 63 ∧ classify ((none : Option FuseBytes).getD (t.fuses.get 63)) = .blank
      ∧ classify ((some (#v[0xA5, 0, 0, 0, 0, 0, 0] : FuseBytes)).getD (t.fuses.get 63)) = .spoiled
      ∧ classify ((some (encodeSlot (.row 47 32767 0))).getD (t.fuses.get 63)) = .valid (.row 47 32767 0)
      ∧ classify ((some (encodeSlot (.void 47 0))).getD (t.fuses.get 63)) = .valid (.void 47 0)
      ∧ (t.bank 47).noRecord 32767 ∧ (t.bank 47).spares.get 0 = .free
      ∧ (taken.bank 47).records.get 0 = some { row := 32767, state := .fused 0, origin := .managed, poison := 2 }
      ∧ (taken.bank 47).spares.get 0 ≠ .free
      ∧ (∀ n : FuseNo, 0 ≤ n.val → (t.image.set 63 .blank).get n = .blank)
      ∧ (∀ n : FuseNo, n.val + 1 = 64 → (t.image.set 63 .spoiled).get n ≠ .blank) ∧ (∀ c : Bank, (t.bank c).precharged = false) :=
  ⟨by decide, by decide, by decide, by decide, by decide, by decide, BankState.recOf_eq_none.mp (by decide), by decide, by decide,
    by decide, by decide, by decide, by decide⟩

theorem test_slot_63_ends_the_load :
    let s := { State.reset with loadPos := 63, banks := Vector.replicate 48 { BankState.reset with precharged := true } }
    let t := after (.loadSlotRead (some (encodeSlot (.void 47 7)))) s
    t.part = .running ∧ t.link = .up ∧ t.nextFree = 64 ∧ t.summary.skipped = 63 ∧ t.outbound = [.ready]
      ∧ (t.notice .loadDone).detail = some (.load t.summary) ∧ (t.notice .loadDone).bytes = [1, 0, 0, 1, 1, 0, 0, 63, 64] := by decide

theorem test_meets_EncodingsReadBack :
    ([0x01, 0x05] : List Byte).length < 3 ∧ (0x05 : Byte) :: [0x3F, 0x2F] = [0x05, byteOf (63 : Tag).val, byteOf (47 : Bank).val]
      ∧ parseOrder 0x05 [0x3F, 0x2F] = some (.bank 63 47 .refresh) ∧ parseOrder 0x06 [0x3F, 0x2F, 0x7F, 0xFF, 0x03] = none
      ∧ classify #v[0xA5, 0x70, 0x07, 0x7F, 0xFF, ~~~(0x70 ^^^ 0x07 ^^^ 0x7F ^^^ 0xFF), 0x5A] = .spoiled
      ∧ classify #v[0xA5, 0xAF, 0x07, 0x00, 0x01, ~~~(0xAF ^^^ 0x07 ^^^ 0x00 ^^^ 0x01), 0x5A] = .spoiled := by decide

/-- Stored words of each kind that the decoding tells apart: with parity 0 a syndrome of 0 and another; with parity 1 a syndrome of 0, of one bit,
of a column, and of no column. -/
theorem test_meets_CheckCode :
    checkWord { data := 1, check := 0x83 } = .clean ∧ checkWord { data := 0, check := 0x03 } = .uncorrectable
      ∧ checkWord { data := 0, check := 0x80 } = .corrected 0 ∧ checkWord { data := 0, check := 0x01 } = .corrected 0
      ∧ checkWord { data := 1, check := 0 } = .corrected 0 ∧ checkWord { data := 0, check := 0x7F } = .uncorrectable := by decide

theorem test_meets_PartReset :
    let p : Programming := { slot := 63, entry := .void 47 7 }
    let s := moving { BankState.reset with shadow := .claimed .copy } (job .copying)
    let t := moving { BankState.reset with shadow := .claimed .final } { recopy with phase := .final }
    up.programmer = none ∧ up.active = none ∧ ({ up with programmer := some p } : State).programmer = some p
      ∧ s.stackOk ∧ s.active = some (job .copying) ∧ (s.bank 47).shadow = .claimed .copy ∧ (job .copying).chunk = some 7
      ∧ (63 : Col).val = 8 * (7 : Chunk).val + 7 ∧ 20 * 0 + 11 + 7 < 19 ∧ ¬ 20 * 0 + 11 + 7 < 18
      ∧ t.active = some { recopy with phase := .final } ∧ (t.bank 47).shadow = .claimed .final
      ∧ ((List.finRange 8).filter fun c : Chunk => recopy.mask.get c) = [7]
      ∧ ({ State.reset with part := PartState.reset } : State).part = .reset ∧ up.part ≠ .reset := by decide

/-- The state right after reset meets every invariant, and so it meets the hypothesis of each statement that a step keeps one. -/
theorem test_meets_the_invariants :
    State.reset.stackOk ∧ State.reset.noticesOk ∧ State.reset.settingsOk ∧ State.reset.listsOk ∧ State.reset.trackersOk ∧ up.unitsOk
      ∧ up.engineOk ∧ up.steeringOk ∧ up.ordersOk ∧ step up = .next up := by
  refine ⟨by decide, by decide, by decide, by decide, by decide, by decide, by decide, by decide, by decide, rfl⟩

/-- So does a state with a job active, another pending, and a frame that waits behind an intake REJECT. -/
theorem test_meets_the_job_invariants :
    let s := ((queued (.intakeReject 63 .full)).setBank 47 { withRec (.migrating none) with migClaim := some .copy }).setBank 0
      (withRec .returning)
    let t : State := { s with active := some { job .copying with abort := true }, migQueue := [(0, 32767)], waiting := [[0x04]] }
    t.migrationOk ∧ t.intakeOk ∧ step t = .next t := by
  refine ⟨by decide, by decide, rfl⟩

end Sys2Proof.Tests
end

section
/-! The row that a lookup gives: the two outcomes of its search for a record, and each line of Table 1-4. -/
namespace Sys2Proof.Machine

/-! ### The physical row of a record (Table 1-4) -/

section
variable {d : Spare} {e : Rec}

/-- A first steer has not left the logical row's own place. -/
theorem Rec.current_of_firstSteer (h : e.state = .migrating none) : e.current d = ownRow e.row := by
  simp [Rec.current, h]

/-- A re-steer has not left its from-spare, whatever becomes of that spare at the switch. -/
theorem Rec.current_of_reSteer {f : Spare} {retire : Bool} (h : e.state = .migrating (some (f, retire))) :
    e.current d = spareRow f := by
  simp [Rec.current, h]

/-- A record in no MIGRATING state has its row on its own spare. -/
theorem Rec.current_of_not_migrating (h : ∀ old, e.state ≠ .migrating old) : e.current d = spareRow d := by
  unfold Rec.current
  cases hs : e.state with
  | migrating old => exact absurd hs (h old)
  | steered | sealing _ | fused _ | returning => rfl

end

/-! ### Lookup (R6) -/

/-- A lookup that finds no record gives the logical row's own place. -/
theorem BankState.lookupRow_of_noRecord {x : BankState} {r : LRow} (h : x.noRecord r) : x.lookupRow r = ownRow r := by
  simp [BankState.lookupRow, BankState.recOf_eq_none.mpr h]

/-- A lookup of a row with a record gives the physical row of that record, in a table without two records of one row. -/
theorem BankState.lookupRow_of_record {x : BankState} {d : Spare} {e : Rec} (ht : x.tableOk) (he : x.records.get d = some e) :
    x.lookupRow e.row = e.current d := by
  simp [BankState.lookupRow, BankState.recOf_eq ht he rfl]

/-- Settles O21: the search finds the row's one record, and the record's state says where the row is. -/
theorem lookupFollowsTheRecord : Obligations.LookupFollowsTheRecord := by
  intro x r ht
  refine ⟨BankState.lookupRow_of_noRecord, ?_⟩
  rintro d e he rfl
  rw [BankState.lookupRow_of_record ht he]
  refine ⟨Rec.current_of_firstSteer, fun _ _ => Rec.current_of_reSteer, fun hs => Rec.current_of_not_migrating fun old hm => ?_⟩
  rcases hs with hs | hs | ⟨n, hs⟩ | ⟨n, hs⟩ <;> simp [hs] at hm

end Sys2Proof.Machine
end

section
/-! The neighbours of a physical row: which rows they are and in which order, and how many an interior row has. -/
namespace Sys2Proof.Machine

/-! ### Which rows, and their order (R100) -/

/-- Two rows lie in one strip when both lie in the main strip or neither does. -/
theorem sameStrip_iff {m n : Nat} : sameStrip m n = true ↔ (n < 32768 ↔ m < 32768) := by
  simp only [sameStrip, beq_iff_eq, decide_eq_decide]
  exact iff_comm

/-- At any reach, the neighbours of p are the rows of its strip at a distance of 1 to that reach. -/
theorem mem_neighbours {reach : Nat} {p q : PRow} : q ∈ neighbours reach p ↔
    (∃ i < reach, q.val + (i + 1) = p.val ∨ q.val = p.val + (i + 1)) ∧ (q.val < 32768 ↔ p.val < 32768) := by
  have below (i : Nat) : (i < p.val ∧ q.val = p.val - (i + 1)) ↔ q.val + (i + 1) = p.val := by omega
  simp [neighbours, sameStrip_iff, toFin?_eq_some, below, and_or_left, exists_or, or_and_right]

/-- The rows below p stand farthest first and those above it nearest first, so that the whole list ascends. -/
theorem neighbours_ascending (reach : Nat) (p : PRow) : (neighbours reach p).Pairwise (· < ·) := by
  refine List.Pairwise.filter _ (List.pairwise_append.mpr ⟨?below, ?above, ?across⟩)
  case below =>
    refine List.pairwise_filterMap.mpr (List.pairwise_reverse.mpr (List.pairwise_lt_range.imp ?_))
    simp only [Option.ite_none_right_eq_some, toFin?_eq_some, Fin.lt_def]
    omega
  case above =>
    refine List.pairwise_filterMap.mpr (List.pairwise_lt_range.imp ?_)
    simp only [toFin?_eq_some, Fin.lt_def]
    omega
  case across =>
    simp only [List.mem_filterMap, Option.ite_none_right_eq_some, toFin?_eq_some, Fin.lt_def]
    rintro q ⟨i, -, hle, hq⟩ r ⟨j, -, hr⟩
    omega

/-- An ascending list is the list of the neighbours as soon as it has the same rows. -/
theorem neighbours_eq_of_mem_iff {reach : Nat} {p : PRow} {rows : List PRow} (hasc : rows.Pairwise (· < ·))
    (hmem : ∀ q, q ∈ neighbours reach p ↔ q ∈ rows) : neighbours reach p = rows :=
  (neighbours_ascending reach p).eq_of_mem_iff hasc hmem

/-- At reach 1 the rows next to p. -/
theorem mem_neighbours_one {p q : PRow} : q ∈ neighbours 1 p ↔
    (q.val + 1 = p.val ∨ q.val = p.val + 1) ∧ (q.val < 32768 ↔ p.val < 32768) := by
  simp [mem_neighbours]

/-- At reach 2 the rows next to p and those beyond them. -/
theorem mem_neighbours_two {p q : PRow} : q ∈ neighbours 2 p ↔
    ((q.val + 1 = p.val ∨ q.val = p.val + 1) ∨ q.val + 2 = p.val ∨ q.val = p.val + 2) ∧ (q.val < 32768 ↔ p.val < 32768) := by
  simp [mem_neighbours, Nat.exists_lt_succ_right, -Order.lt_two_iff]

/-! ### Rows away from the edges of the strips -/

section
variable {p : PRow}

/-- A row that is not the first or last of its strip has both rows next to it. -/
theorem neighbours_one_of_inner (hlo : 1 ≤ p.val) (hstrip : p.val < 32767 ∨ 32769 ≤ p.val) (hhi : p.val < 32775) :
    neighbours 1 p = [⟨p.val - 1, by omega⟩, ⟨p.val + 1, by omega⟩] := by
  refine neighbours_eq_of_mem_iff (by simp) fun q => ?_
  simp only [mem_neighbours_one, List.mem_cons, List.not_mem_nil, or_false, Fin.ext_iff]
  omega

/-- A row with two rows of its strip on each side has all four. -/
theorem neighbours_two_of_inner (hlo : 2 ≤ p.val) (hstrip : p.val < 32766 ∨ 32770 ≤ p.val) (hhi : p.val < 32774) :
    neighbours 2 p = [⟨p.val - 2, by omega⟩, ⟨p.val - 1, by omega⟩, ⟨p.val + 1, by omega⟩, ⟨p.val + 2, by omega⟩] := by
  refine neighbours_eq_of_mem_iff (by simp; omega) fun q => ?_
  simp only [mem_neighbours_two, List.mem_cons, List.not_mem_nil, or_false, Fin.ext_iff]
  omega

end

/-- Settles O32: the membership of each row at the two reaches, Table 5-3 by evaluation, and the list of an inner row. -/
theorem rowsThatAreRefreshed : Obligations.RowsThatAreRefreshed := by
  refine ⟨?members, ?_, ?_, ?_, ?_, ?_, ?_, ?_, ?_, ?_, ?_, ?_, ?_, ?_, ?_, ?_, ?_, ?inner⟩
  case members =>
    rintro reach p q (rfl | rfl)
    · simp [mem_neighbours_one]
    · simp [mem_neighbours_two, or_assoc]
  case inner =>
    intro p hlo hstrip hhi
    constructor
    · rw [neighbours_one_of_inner (by omega) (by omega) (by omega)]
      rfl
    · rw [neighbours_two_of_inner hlo hstrip hhi]
      rfl
  all_goals decide

end Sys2Proof.Machine
end

section
/-! The step: what every command's effect on the state can be, and that it answers a next state and leaves the queue as it was. -/
namespace Sys2Proof.Machine

/-! ### What a command can do -/

/-- What one command can do to a state, with the guards under which it does it: one constructor for each meaning of `exec`. -/
inductive Change (s : State) : State → Prop
  | stays : Change s s
  | arrives (f : List Byte) : Change s (s.arrive f)
  | resetsLink (rest : List Byte) (sending : Bool) : Change s (s.arriveLinkReset rest sending)
  | sends : Change s s.sendHead
  | takesReport {p : Report} {rest : List Report} (h : s.reportLane = p :: rest) :
      Change s (({ s.takeReport p.bank p.row p.kind with reportLane := rest }).handReply p.tag none .done)
  | answers {b : Bank} {op : BankOp} (body : ReplyBody) (h : (s.bank b).beginable = some op) : Change s (s.endOrder b body)
  | reads {b : Bank} {c : Col} {r : LRow} {p : PRow} (h : (s.bank b).beginable = some (.read c))
      (hs : (s.bank b).shadow = .opened r p) : Change s ((s.port [.readBurst b p c]).setBank b
        { s.bank b with inProgress := some (.burst (.data (s.readBurst b p c))) })
  | writes {b : Bank} {c : Col} {v : Burst} {r : LRow} {p : PRow} (h : (s.bank b).beginable = some (.write c v))
      (hs : (s.bank b).shadow = .opened r p) : Change s
        ((((s.port [.writeBurst b p c]).writeBurst b p c v).noteWrite b r c).setBank b { s.bank b with inProgress := some (.burst .done) })
  | closesOpen {b : Bank} {r : LRow} {p : PRow} (h : (s.bank b).beginable = some .close) (hs : (s.bank b).shadow = .opened r p) :
      Change s (((s.port [.precharge b p]).closeBank b).endOrder b .done)
  | closesOther {b : Bank} (h : (s.bank b).beginable = some .close) (hs : (s.bank b).isOpen = false) :
      Change s ((s.setBank b { s.bank b with revoked := false }).endOrder b .done)
  | completes {b : Bank} {body : ReplyBody} (h : (s.bank b).inProgress = some (.burst body)) : Change s (s.endOrder b body)
  | chooses (b : Bank) (early : Bool) : Change s (s.arbiterChoice b early)
  | endsMainChunk {a : Active} {k : Chunk} (ha : s.active = some a) (hs : (s.bank a.bank).shadow = .claimed .copy)
      (hk : a.chunk = some k) (hp : a.phase = .copying) :
      Change s (((s.copyChunk k).closeBank a.bank).afterMainChunk (a.counted (s.chunkCounts a k)))
  | endsRecopyChunk {a : Active} {k : Chunk} (ha : s.active = some a) (hs : (s.bank a.bank).shadow = .claimed .copy)
      (hk : a.chunk = some k) (hp : a.phase = .recopying) :
      Change s (((s.copyChunk k).closeBank a.bank).afterRecopyChunk (a.counted (s.chunkCounts a k)))
  | endsFinal {a : Active} (ha : s.active = some a) (hs : (s.bank a.bank).shadow = .claimed .final) :
      Change s ((s.copyFlagged a.flagged).takeSwitch a)
  | ticks (first : List Bank) : Change s (s.tickAll first)
  | completesSlot {b : Bank} {k : Nat} (h : (s.bank b).slot = some k) : Change s (s.completeSlot b k)
  | services (b : Bank) : Change s (s.serviceOne b)
  | endsService (b : Bank) : Change s (s.endService b)
  | asks (e : Exchange) (l : Option LastChanging) (o : List Byte) (n : Nat) :
      Change s { s with exchange := e, lastChanging := l, servicePortOut := o, freeCount := n }
  | serves (c : Call) (e : Exchange) (l : Option LastChanging) (h : s.part = .running)
      (hc : ∀ i v, c = .set i v → i.inRange v = true) : Change s { (s.serve c).1 with exchange := e, lastChanging := l }
  | programs {p : Programming} (f : FuseBytes) (h : s.programmer = some p) : Change s (s.endProgramming p f)
  | loads {n : FuseNo} (f : FuseBytes) (hp : s.part = .loading) (hn : s.loadPos = n.val) : Change s (s.loadSlot n f)
  | precharges (b : Bank) (hp : s.part = .loading) :
      Change s ((s.port [.prechargeBank b]).setBank b { s.bank b with precharged := true }).tryLoadEnd
  | resets (n : Nat) (m : Byte) (k : Nat) (l : List (Bank × Nat)) : Change s (s.resetPart n m k l)
  | releases (h : s.part = .reset) : Change s (s.fresh .loading)

/-! ### Requests -/

/-- The port made ready, or not yet, changes the exchange alone. -/
theorem Change.asks_readyUnless (s : State) (late : Bool) : Change s (s.readyUnless late) := by
  rw [State.readyUnless_frame]
  exact Change.asks (s.readyUnless late).exchange s.lastChanging s.servicePortOut s.freeCount

/-- An answer changes the exchange alone. -/
theorem Change.asks_respond (s : State) (late : Bool) (f : List Byte) (xn code : Byte) (r : Result) (l : List Byte) :
    Change s (s.respond late f xn code r l) := by
  rw [State.respond_frame]
  exact Change.asks (s.respond late f xn code r l).exchange s.lastChanging s.servicePortOut s.freeCount

/-- The record of the last changing request changes that record alone. -/
theorem State.record_frame (xn : Byte) (q : Request) (r : Result) (l : List Byte) (s : State) :
    s.record xn q r l = { s with lastChanging := (s.record xn q r l).lastChanging } := by
  unfold State.record; split <;> rfl

/-- A SET that passed the port's checks has a value in its item's range. -/
theorem checkRequest_set {q : Request} {i : Item} {v : Nat} (h : checkRequest q = .ok (.set i v)) : i.inRange v = true := by
  cases q with
  | set k w =>
    unfold checkRequest at h
    cases hk : itemOf k with
    | none => simp [hk, orElseResult, bind, Except.bind] at h
    | some j =>
      simp only [hk, orElseResult, bind, Except.bind] at h
      split at h
      · cases h; assumption
      · cases h
  | _ =>
    simp only [checkRequest, bind, Except.bind, pure, Except.pure] at h
    (repeat' split at h) <;> cases h

/-- What a request past the port's first checks can do to a part that is running. -/
theorem State.takeCall_change (late : Bool) (xn : Byte) (q : Request) {s : State} (h : s.part = .running) :
    Change s (s.takeCall late xn q) := by
  unfold State.takeCall
  split
  · exact Change.asks_respond ..
  · next c hc =>
    dsimp only [State.answer]
    rw [State.respond_frame, State.record_frame]
    exact Change.serves c _ _ h fun i v hv => checkRequest_set (hv ▸ hc)

/-- STATUS past the port's first checks changes the exchange alone. -/
theorem State.takeCall_status_change (late : Bool) (xn : Byte) (s : State) : Change s (s.takeCall late xn .status) :=
  Change.asks_respond ..

/-- What a request can do. -/
theorem State.takeRequest_change (late : Bool) (xn : Byte) (q : Request) (s : State) : Change s (s.takeRequest late xn q) := by
  unfold State.takeRequest
  split
  case h_1 => exact Change.stays
  case h_2 => exact Change.asks_readyUnless ..
  case h_3 | h_4 =>
    split
    · next h => subst h; exact State.takeCall_status_change ..
    · exact Change.asks_respond ..
  case h_5 | h_6 =>
    split
    · exact Change.asks_respond ..
    · exact State.takeCall_change _ _ _ ‹_›

/-- What a frame that is read by its bytes can do. -/
theorem State.takeRequestFrame_change (late : Bool) (f : List Byte) (s : State) : Change s (s.takeRequestFrame late f) := by
  unfold State.takeRequestFrame
  split
  · exact Change.stays
  · exact State.takeRequest_change ..
  · split
    · exact Change.stays
    · exact Change.asks_readyUnless ..
    · exact Change.asks_respond ..

/-- What a response read can do. -/
theorem State.readResponse_change (late : Bool) (n : Nat) (s : State) : Change s (s.readResponse late n) := by
  unfold State.readResponse
  split
  · exact Change.asks s.exchange s.lastChanging _ _
  · rw [State.readyUnless_frame]
    exact Change.asks _ s.lastChanging _ s.freeCount

/-! ### Every command -/

section
variable (b : Bank) (s : State)

theorem execHeadOpen_change : ∃ t, execHeadOpen b s = .next t ∧ Change s t := by
  unfold execHeadOpen
  split
  · exact ⟨_, rfl, Change.answers _ ‹_›⟩
  · exact ⟨_, rfl, Change.stays⟩

theorem execHeadRefresh_change : ∃ t, execHeadRefresh b s = .next t ∧ Change s t := by
  unfold execHeadRefresh
  split
  · exact ⟨_, rfl, Change.answers _ ‹_›⟩
  · exact ⟨_, rfl, Change.stays⟩

theorem execHeadRead_change : ∃ t, execHeadRead b s = .next t ∧ Change s t := by
  unfold execHeadRead
  split
  · exact ⟨_, rfl, Change.reads ‹_› ‹_›⟩
  · exact ⟨_, rfl, Change.answers _ ‹_›⟩
  · exact ⟨_, rfl, Change.stays⟩

theorem execHeadWrite_change : ∃ t, execHeadWrite b s = .next t ∧ Change s t := by
  unfold execHeadWrite
  split
  · exact ⟨_, rfl, Change.writes ‹_› ‹_›⟩
  · exact ⟨_, rfl, Change.answers _ ‹_›⟩
  · exact ⟨_, rfl, Change.stays⟩

theorem execHeadClose_change : ∃ t, execHeadClose b s = .next t ∧ Change s t := by
  unfold execHeadClose
  split
  · exact ⟨_, rfl, Change.closesOpen ‹_› ‹_›⟩
  · next h hs =>
    refine ⟨_, rfl, Change.closesOther h ?_⟩
    unfold BankState.isOpen
    split
    · exact absurd ‹_› (hs _ _)
    · rfl
    · rfl
  · exact ⟨_, rfl, Change.stays⟩

theorem execOrderCompletion_change : ∃ t, execOrderCompletion b s = .next t ∧ Change s t := by
  unfold execOrderCompletion
  split
  · exact ⟨_, rfl, Change.completes ‹_›⟩
  · exact ⟨_, rfl, Change.stays⟩
  · exact ⟨_, rfl, Change.stays⟩

theorem execChunkJobEnd_change : ∃ t, execChunkJobEnd s = .next t ∧ Change s t := by
  unfold execChunkJobEnd
  split
  · exact ⟨_, rfl, Change.stays⟩
  · next a ha =>
    split
    · next hs =>
      split
      · exact ⟨_, rfl, Change.stays⟩
      · next k hk =>
        dsimp only
        split
        · next hp => exact ⟨_, rfl, Change.endsMainChunk ha hs hk hp⟩
        · next hp =>
          refine ⟨_, rfl, Change.endsRecopyChunk ha hs hk ?_⟩
          cases hph : a.phase <;> simp_all [Active.chunk]
    · exact ⟨_, rfl, Change.stays⟩

theorem execFinalJobEnd_change : ∃ t, execFinalJobEnd s = .next t ∧ Change s t := by
  unfold execFinalJobEnd
  split
  · exact ⟨_, rfl, Change.stays⟩
  · split
    · exact ⟨_, rfl, Change.endsFinal ‹_› ‹_›⟩
    · exact ⟨_, rfl, Change.stays⟩

theorem execReportTake_change : ∃ t, execReportTake s = .next t ∧ Change s t := by
  unfold execReportTake
  split
  · exact ⟨_, rfl, Change.stays⟩
  · exact ⟨_, rfl, Change.takesReport ‹_›⟩

theorem execTick_change (first : List Bank) : ∃ t, execTick first s = .next t ∧ Change s t := by
  unfold execTick
  split
  · exact ⟨_, rfl, Change.ticks first⟩
  · exact ⟨_, rfl, Change.stays⟩

theorem execSlotCompletion_change : ∃ t, execSlotCompletion b s = .next t ∧ Change s t := by
  unfold execSlotCompletion
  split
  · exact ⟨_, rfl, Change.completesSlot ‹_›⟩
  · exact ⟨_, rfl, Change.stays⟩

theorem execProgrammingEnd_change (f : FuseBytes) : ∃ t, execProgrammingEnd f s = .next t ∧ Change s t := by
  unfold execProgrammingEnd
  split
  · exact ⟨_, rfl, Change.programs f ‹_›⟩
  · exact ⟨_, rfl, Change.stays⟩

theorem execLoadSlotRead_change (weak : Option FuseBytes) : ∃ t, execLoadSlotRead weak s = .next t ∧ Change s t := by
  unfold execLoadSlotRead
  split
  · next n hp hn => exact ⟨_, rfl, Change.loads _ hp (toFin?_eq_some.mp hn).symm⟩
  · exact ⟨_, rfl, Change.stays⟩

theorem execLoadingPrechargeDone_change : ∃ t, execLoadingPrechargeDone b s = .next t ∧ Change s t := by
  unfold execLoadingPrechargeDone
  split
  · next h => exact ⟨_, rfl, Change.precharges b h.1⟩
  · exact ⟨_, rfl, Change.stays⟩

theorem execPartResetRelease_change : ∃ t, execPartResetRelease s = .next t ∧ Change s t := by
  unfold execPartResetRelease
  split
  · exact ⟨_, rfl, Change.releases ‹_›⟩
  · exact ⟨_, rfl, Change.stays⟩

end

/-- Every command answers a next state, and what it does is one of the changes. -/
theorem exec_change (c : Instr) (s : State) : ∃ t, exec c s = .next t ∧ Change s t := by
  cases c with
  | orderOpen rest => exact ⟨_, rfl, Change.arrives _⟩
  | orderRead rest => exact ⟨_, rfl, Change.arrives _⟩
  | orderWrite rest => exact ⟨_, rfl, Change.arrives _⟩
  | orderClose rest => exact ⟨_, rfl, Change.arrives _⟩
  | orderRefresh rest => exact ⟨_, rfl, Change.arrives _⟩
  | orderReport rest => exact ⟨_, rfl, Change.arrives _⟩
  | unknownOrderFrame f => exact ⟨_, rfl, Change.arrives f⟩
  | linkReset rest sending => exact ⟨_, rfl, Change.resetsLink rest sending⟩
  | outboundSend => exact ⟨_, rfl, Change.sends⟩
  | headOpen b => exact execHeadOpen_change b s
  | headRead b => exact execHeadRead_change b s
  | headWrite b => exact execHeadWrite_change b s
  | headClose b => exact execHeadClose_change b s
  | headRefresh b => exact execHeadRefresh_change b s
  | orderCompletion b => exact execOrderCompletion_change b s
  | bankArbiterChoice b e => exact ⟨_, rfl, Change.chooses b e⟩
  | chunkJobEnd => exact execChunkJobEnd_change s
  | finalJobEnd => exact execFinalJobEnd_change s
  | tick first => exact execTick_change s first
  | slotCompletion b => exact execSlotCompletion_change b s
  | targetServiceEnd b => exact ⟨_, rfl, Change.endsService b⟩
  | reportTake => exact execReportTake_change s
  | unknownRequest f => exact ⟨_, rfl, State.takeRequestFrame_change ..⟩
  | requestFrameDiscarded bytes => exact ⟨_, rfl, Change.stays⟩
  | responseRead n => exact ⟨_, rfl, State.readResponse_change ..⟩
  | programmingEnd f => exact execProgrammingEnd_change s f
  | loadSlotRead weak => exact execLoadSlotRead_change s weak
  | loadingPrechargeDone b => exact execLoadingPrechargeDone_change b s
  | partReset n m p => exact ⟨_, rfl, Change.resets ..⟩
  | partResetRelease => exact execPartResetRelease_change s
  | aggressorServiced b => exact ⟨_, rfl, Change.services b⟩
  | status xn | lookup xn bank row | listBank xn bank | bankState xn bank | steer xn bank row | release xn bank row | sealRow xn bank row
  | voidSpare xn bank spare flag | suspects xn | forget xn bank row | forgetAll xn | fuse xn slot | setItem xn item value
  | getItem xn item | noticeTop xn | noticeAck xn kind | maskKind xn kind setting => exact ⟨_, rfl, State.takeRequest_change ..⟩

/-- A property of the state that does not look at the queue is kept by every step when every change keeps it. -/
theorem step_keeps {P : State → Prop} (hq : ∀ (s : State) (l : List Instr), P s → P { s with pending := l })
    (hc : ∀ s t, Change s t → P s → P t) {s t : State} (h : step s = .next t) (hs : P s) : P t := by
  unfold step at h
  split at h
  · cases h; exact hs
  · next c rest _ =>
    obtain ⟨u, hu, hch⟩ := exec_change c { s with pending := rest }
    rw [hu] at h
    cases h
    exact hc _ _ hch (hq s rest hs)

/-! ### The queue -/

theorem State.serveSeal_pending (b : Bank) (r : LRow) (s : State) : (s.serveSeal b r).1.pending = s.pending := by
  simp only [State.serveSeal]
  repeat' split
  all_goals rfl

/-- A request served leaves the queue as it was. -/
theorem State.serve_pending (c : Call) (s : State) : (s.serve c).1.pending = s.pending := by
  cases c with
  | steer b r =>
    have h := congrArg State.pending (State.steerClaim_frame b r .managed s)
    simp only [State.serve, State.serveSteer]
    split <;> simp_all
  | release b r =>
    have aborted (a : Active) : (s.abortNow a).pending = s.pending := by rw [State.abortNow_frame]
    have queued (x : BankState) : ((s.setBank b x).queueJob b r).pending = s.pending := by rw [State.queueJob_frame]; rfl
    simp only [State.serve, State.serveRelease, State.releaseActive, State.cancelMove, State.startReturn]
    repeat' split
    all_goals simp only [aborted, queued, State.setBank_pending]
  | void b d f =>
    simp only [State.serve, State.serveVoid]
    repeat' split
    all_goals rfl
  | lookup b r => simp only [State.serve, State.serveLookup]; split <;> rfl
  | forget b r => simp only [State.serve, State.serveForget]; split <;> rfl
  | noticeAck k => simp only [State.serve, State.serveAck]; split <;> rfl
  | status | list _ | bank _ | suspects | forgetAll | fuse _ | set _ _ | get _ | noticeTop | mask _ _ => rfl
  | _ => exact State.serveSeal_pending .. -- SEAL; its constructor's name is a command of Lean

/-- Every change leaves the queue as it was. -/
theorem Change.pending {s t : State} (h : Change s t) : t.pending = s.pending := by
  cases h with
  | arrives f => rw [State.arrive_frame]
  | resetsLink rest sending => rw [State.arriveLinkReset_frame]
  | sends => rw [State.sendHead_frame]
  | takesReport h => rw [State.handReply_frame, State.takeReport_frame]
  | answers | completes => rw [State.endOrder_frame]
  | closesOpen | closesOther => rw [State.endOrder_frame]; rfl
  | chooses b e => rw [State.arbiterChoice_frame]
  | endsMainChunk => rw [State.afterMainChunk_frame, State.closeBank_frame, State.copyChunk_frame]
  | endsRecopyChunk => rw [State.afterRecopyChunk_frame, State.closeBank_frame, State.copyChunk_frame]
  | endsFinal => rw [State.takeSwitch_frame, State.copyFlagged_frame]
  | ticks first => rw [State.tickAll_frame]
  | completesSlot => rw [State.completeSlot_frame]
  | services b => rw [State.serviceOne_frame]
  | endsService b => rw [State.endService_frame]
  | serves c => exact State.serve_pending c s
  | programs => rw [State.endProgramming_frame]
  | loads => rw [State.loadSlot_frame]
  | precharges => rw [State.tryLoadEnd_frame]; rfl
  | resets => rw [State.resetPart_frame]
  | stays | reads | writes | asks | releases => rfl

/-- Settles O2: every command's effect is one of the changes, and each of those leaves the queue. -/
theorem everyCommandAnswersNextAndKeepsTheQueue : Obligations.EveryCommandAnswersNextAndKeepsTheQueue := by
  intro c s
  obtain ⟨t, ht, hc⟩ := exec_change c s
  exact ⟨t, ht, hc.pending⟩

/-- Settles O1: the two cases of the queue. -/
theorem stepTakesTheFrontCommand : Obligations.StepTakesTheFrontCommand := by
  constructor
  · intro c rest s h
    simp only [step, h]
  · intro s h
    simp only [step, h]

/-! ### Reset -/

/-- Every bank right after reset. -/
theorem State.reset_bank (b : Bank) : State.reset.bank b = BankState.reset := by
  simp [State.bank, State.reset, vget_eq]

/-- Reading a vector of equal elements. -/
theorem vget_replicate {α : Type} {n : Nat} (x : α) (i : Fin n) : (Vector.replicate n x).get i = x := by
  simp [vget_eq]

/-- Settles O3: the values are those of the definition, each vector read at any place. -/
theorem resetValues : Obligations.ResetValues := by
  refine ⟨rfl, rfl, rfl, rfl, rfl, rfl, rfl, rfl, fun i => ?_, rfl, rfl, rfl, rfl, fun n => vget_replicate _ _, rfl, rfl, rfl, rfl,
    fun k => vget_replicate _ _, rfl, fun b => ?_⟩
  · exact congrArg BufBurst.poison (vget_replicate _ _)
  · rw [State.reset_bank]
    exact ⟨rfl, rfl, rfl, rfl, rfl, rfl, rfl, rfl, rfl, rfl, rfl, rfl, fun i => vget_replicate _ _,
      fun d => ⟨vget_replicate _ _, vget_replicate _ _⟩⟩

/-- The bank unit, tracker and table of a bank right after reset. -/
theorem BankState.reset_ok : BankState.reset.trackerOk ∧ BankState.reset.unitOk ∧ BankState.reset.tableOk
    ∧ engineBankOk none 0 BankState.reset = true :=
  ⟨by decide, by decide, by decide, by decide⟩

/-- Nothing is placed anywhere right after reset. -/
theorem State.reset_placedTags : State.reset.placedTags = [] := by
  unfold State.placedTags
  simp only [State.reset_bank]
  rfl

/-- Settles O60: each invariant at the reset values, for any one bank. -/
theorem resetSatisfiesTheInvariants : Obligations.ResetSatisfiesTheInvariants := by
  obtain ⟨htr, hu, ht, he⟩ := BankState.reset_ok
  have table : State.reset.tableOk := ⟨fun b => by rw [State.reset_bank]; exact ht, rfl⟩
  have record (b : Bank) (d : Spare) : (State.reset.bank b).records.get d = none := by rw [State.reset_bank]; exact vget_replicate _ _
  have engine : State.reset.engineOk := ⟨fun b => by rw [State.reset_bank]; exact he, rfl⟩
  refine ⟨rfl, ⟨fun i => ?notice, rfl⟩, ⟨by decide, fun b => ?_⟩, by decide, by decide, fun b => ?_, fun b => ?_, engine,
    ⟨table, engine, ?jobs⟩, ⟨table, ?seals⟩, ?orders⟩
  case notice => rw [show State.reset.notices.get i = NoticeEntry.reset from vget_replicate _ _]; decide
  case jobs => exact ⟨List.nodup_nil, rfl, fun b d => by rw [record]; rfl, rfl, fun _ => rfl⟩
  case seals =>
    have blank (n : FuseNo) : State.reset.image.get n = .blank := vget_replicate _ _
    exact ⟨fun b d => by rw [record]; rfl, rfl, fun _ n _ => blank n, fun _ => ⟨rfl, fun n _ => blank n, fun _ n _ => blank n⟩⟩
  case orders =>
    refine ⟨nofun, fun _ => ⟨rfl, rfl, rfl⟩, nofun, fun _ b => ?_, fun _ => rfl⟩
    rw [State.reset_bank]
    exact ⟨rfl, rfl⟩
  · rw [State.reset_bank]; decide
  · rw [State.reset_bank]; exact htr
  · rw [State.reset_bank]; exact hu

end Sys2Proof.Machine
end

section
/-! The small moves every change is made of, and the tables that each of them keeps (O55). -/
namespace Sys2Proof.Machine

/-! ### What a move may do to the lists, a notice and a bank -/

/-- The held tags are at most 32 and all different (R55). -/
def heldOk (l : List Tag) : Prop := l.length ≤ 32 ∧ l.Nodup

/-- The suspect list as R124 bounds it. -/
def suspectsOk (l : List Suspect) : Prop :=
  l.length ≤ 32 ∧ (l.map fun e => (e.bank, e.row)).Nodup
    ∧ ∀ e ∈ l, e.corrected ≤ 255 ∧ e.uncorrected ≤ 15 ∧ 1 ≤ e.corrected + e.uncorrected

/-- A notice entry is pending exactly when its count, at most 255, is above 0 (R170). -/
def noteOk (e : NoticeEntry) : Prop := (e.pending = true ↔ 1 ≤ e.count) ∧ e.count ≤ 255

/-- The intake's lists, taken apart. -/
theorem State.listsOk_iff (s : State) : s.listsOk ↔ heldOk s.held ∧ suspectsOk s.suspectList ∧ s.migQueue.length ≤ 8 := by
  unfold State.listsOk heldOk suspectsOk; tauto

/-- A bank's passover count stays, returns to 0 or rises below the limit, and its tracker and target queue stay in bounds. -/
def BankState.Adjusts (limit : Nat) (x y : BankState) : Prop :=
  (y.passover = x.passover ∨ y.passover = 0 ∨ x.passover < limit ∧ y.passover = x.passover + 1) ∧ (x.trackerOk → y.trackerOk)

/-- The shadow state stays, or no migration job holds the bank before or after. -/
def BankState.ShadowCalm (x y : BankState) : Prop := y.shadow = x.shadow ∨ x.inMigration = false ∧ y.inMigration = false

/-- A small move: one field, or one entry of a table, as the blocks change it. A `calm` one leaves the steering table, the jobs and claims of the
engine, the fuse store and the part state as they are; a `quiet` one leaves the bank units, the held orders and the replies as they are. -/
inductive Micro (calm quiet : Bool) (s : State) : State → Prop
  | notes (k : NoticeKind) (e : NoticeEntry) (h : noteOk (s.notice k) → noteOk e) : Micro calm quiet s (s.setNotice k e)
  | hands (m : OutMsg) (h : m.isIntakeReject = false) (hq : quiet = true → m.replyTag = none) :
      Micro calm quiet s { s with outbound := s.outbound ++ [m] }
  | rejects (t : Tag) (r : Reason) (h : s.rejectUnsent = false) :
      Micro calm quiet s { s with outbound := s.outbound ++ [.intakeReject t r] }
  | forgets (h : s.rejectUnsent = false) (hq : quiet = false) : Micro calm quiet s { s with outbound := [] }
  | unit (b : Bank) (x : BankState) (hq : quiet = false)
      (hx : x = { s.bank b with
        shadow := x.shadow, lane := x.lane, inProgress := x.inProgress, revoked := x.revoked, passover := x.passover, forced := x.forced
        claimNew := x.claimNew, reported := x.reported, precharged := x.precharged, pointer := x.pointer, debt := x.debt, need := x.need
        slot := x.slot, service := x.service, tracker := x.tracker, targets := x.targets })
      (hs : (s.bank b).ShadowCalm x) (ha : (s.bank b).Adjusts s.settings.passoverLimit x) : Micro calm quiet s (s.setBank b x)
  | tracks (b : Bank) (x : BankState) (hx : x = { s.bank b with
        passover := x.passover, claimNew := x.claimNew, precharged := x.precharged, need := x.need, tracker := x.tracker
        targets := x.targets })
      (ha : (s.bank b).Adjusts s.settings.passoverLimit x) : Micro calm quiet s (s.setBank b x)
  | tables (b : Bank) (x : BankState) (hc : calm = false) (hx : x = { s.bank b with
        passover := x.passover, migClaim := x.migClaim, claimNew := x.claimNew, records := x.records, spares := x.spares })
      (hp : x.passover = (s.bank b).passover ∨ x.passover = 0) : Micro calm quiet s (s.setBank b x)
  | jobs (b : Bank) (x : BankState) (hc : calm = false) (hq : quiet = false) (hx : x = { s.bank b with
        shadow := x.shadow, passover := x.passover, migClaim := x.migClaim, claimNew := x.claimNew })
      (hp : x.passover = (s.bank b).passover ∨ x.passover = 0) : Micro calm quiet s (s.setBank b x)
  | holds (l : List Tag) (h : heldOk s.held → heldOk l) (hq : quiet = false) : Micro calm quiet s { s with held := l }
  | queues (q : List (Bank × LRow)) (h : s.migQueue.length ≤ 8 → q.length ≤ 8) (hc : calm = false) :
      Micro calm quiet s { s with migQueue := q }
  | suspects (l : List Suspect) (h : suspectsOk s.suspectList → suspectsOk l) : Micro calm quiet s { s with suspectList := l }
  | sets (c : Settings) (h : s.settings.inRange → c.inRange) : Micro calm quiet s { s with settings := c }
  | writes (b : Bank) (p : PRow) (c : Col) (v : Burst) : Micro calm quiet s (s.writeBurst b p c v)
  | links (t : State) (h : t = { s with link := t.link, reportLane := t.reportLane }) (hq : quiet = false) : Micro calm quiet s t
  | starts (t : State) (h : t = { s with part := t.part, link := t.link, timer := t.timer }) (hc : calm = false) (hq : quiet = false) :
      Micro calm quiet s t
  | engine (t : State) (h : t = { s with
      active := t.active, fuses := t.fuses, image := t.image, nextFree := t.nextFree, programmer := t.programmer, summary := t.summary
      loadPos := t.loadPos }) (hc : calm = false) : Micro calm quiet s t
  | other (t : State) (h : t = { s with
      timer := t.timer, buffer := t.buffer, exchange := t.exchange, lastChanging := t.lastChanging, stackPort := t.stackPort
      linkOut := t.linkOut, servicePortOut := t.servicePortOut, freeCount := t.freeCount }) : Micro calm quiet s t

/-- Any number of small moves. -/
abbrev Moves (calm quiet : Bool) : State → State → Prop := Relation.ReflTransGen (Micro calm quiet)

section
variable {calm quiet : Bool}

/-- A property that every small move keeps is kept by any number of them. -/
theorem Moves.keeps {P : State → Prop} (hP : ∀ s t, Micro calm quiet s t → P s → P t) {s t : State} (h : Moves calm quiet s t)
    (hs : P s) : P t := by
  induction h with
  | refl => exact hs
  | tail _ hm ih => exact hP _ _ hm ih

theorem Moves.of_micro {s t : State} (h : Micro calm quiet s t) : Moves calm quiet s t := Relation.ReflTransGen.single h

theorem Moves.trans {s t u : State} (h : Moves calm quiet s t) (h' : Moves calm quiet t u) : Moves calm quiet s u :=
  Relation.ReflTransGen.trans h h'

/-- Moves made by each step of a fold. -/
theorem Moves.foldl {α : Type} {f : State → α → State} (h : ∀ s a, Moves calm quiet s (f s a)) (l : List α) (s : State) :
    Moves calm quiet s (l.foldl f s) := by
  induction l generalizing s with
  | nil => exact .refl
  | cons a l ih => exact (h s a).trans (ih _)

/-! ### One move for each plain operation -/

variable (s : State)

/-- A move in the fields that no invariant looks at. -/
theorem Moves.other {t : State} (h : t = { s with
      timer := t.timer, buffer := t.buffer, exchange := t.exchange, lastChanging := t.lastChanging, stackPort := t.stackPort
      linkOut := t.linkOut, servicePortOut := t.servicePortOut, freeCount := t.freeCount }) : Moves calm quiet s t :=
  .of_micro (.other t h)

theorem Moves.engine {t : State} (h : t = { s with
      active := t.active, fuses := t.fuses, image := t.image, nextFree := t.nextFree, programmer := t.programmer, summary := t.summary
      loadPos := t.loadPos }) : Moves false quiet s t := .of_micro (.engine t h rfl)

theorem Moves.links {t : State} (h : t = { s with link := t.link, reportLane := t.reportLane }) : Moves calm false s t :=
  .of_micro (.links t h rfl)

theorem State.port_moves (ops : List StackOp) : Moves calm quiet s (s.port ops) := .other s rfl

/-- A burst written keeps the memory's canonical form, and nothing else writes one (log 5). -/
theorem Micro.keeps_stackOk {s t : State} (hm : Micro calm quiet s t) (hs : s.stackOk) : t.stackOk := by
  cases hm with
  | writes b p c v => exact Memory.wf_write hs _ _
  | links t ht | starts t ht | engine t ht | other t ht => rw [ht]; exact hs
  | _ => exact hs

/-- A raised entry is pending with a count from 1 to 255. -/
theorem NoticeEntry.raised_ok (b : Option Bank) (r : Option LRow) (d : Detail) (e : NoticeEntry) : noteOk (e.raised b r d) := by
  simp [noteOk, NoticeEntry.raised]

theorem State.raise_moves (k : NoticeKind) (b : Option Bank) (r : Option LRow) (d : Detail) : Moves calm quiet s (s.raise k b r d) :=
  .of_micro (.notes k _ fun _ => NoticeEntry.raised_ok b r d _)

/-- The bounds of the tracker and the target queue look at these two alone. -/
theorem BankState.adjusts_of_eq {x y : BankState} (limit : Nat) (hp : y.passover = x.passover ∨ y.passover = 0)
    (ht : y.tracker = x.tracker) (hq : y.targets = x.targets) : x.Adjusts limit y := by
  refine ⟨hp.imp id .inl, fun h => ?_⟩
  unfold BankState.trackerOk at *
  rwa [ht, hq]

/-- A bank unit's own fields change: neither its passover count nor its tracker nor its target queue. -/
theorem Moves.unit {b : Bank} {x : BankState} (hx : x = { s.bank b with
        shadow := x.shadow, lane := x.lane, inProgress := x.inProgress, revoked := x.revoked, forced := x.forced
        claimNew := x.claimNew, reported := x.reported, precharged := x.precharged, pointer := x.pointer, debt := x.debt, need := x.need
        slot := x.slot, service := x.service }) (hs : (s.bank b).ShadowCalm x) : Moves calm false s (s.setBank b x) := by
  refine .of_micro (.unit b x rfl ?_ hs (BankState.adjusts_of_eq _ ?_ ?_ ?_)) <;> rw [hx]
  exact .inl rfl

/-- The steering table of a bank or its claim changes alone. -/
theorem Moves.table {b : Bank} {x : BankState}
    (hx : x = { s.bank b with migClaim := x.migClaim, claimNew := x.claimNew, records := x.records, spares := x.spares }) :
    Moves false quiet s (s.setBank b x) := by
  refine .of_micro (.tables b x rfl ?_ ?_) <;> rw [hx]
  exact .inl rfl

/-- A migration job takes the bank or leaves it. -/
theorem Moves.job {b : Bank} {x : BankState} (hx : x = { s.bank b with
        shadow := x.shadow, passover := x.passover, migClaim := x.migClaim, claimNew := x.claimNew })
    (hp : x.passover = (s.bank b).passover ∨ x.passover = 0) : Moves false false s (s.setBank b x) :=
  .of_micro (.jobs b x rfl rfl hx hp)

theorem State.handReply_moves (g : Tag) (b : Option Bank) (body : ReplyBody) : Moves calm false s (s.handReply g b body) := by
  unfold State.handReply
  split
  · exact .of_micro (.hands _ rfl nofun)
  · exact .refl

theorem State.handNeed_moves (b : Bank) : Moves calm quiet s (s.handNeed b) := by
  unfold State.handNeed
  split
  · exact .of_micro (.hands _ rfl fun _ => rfl)
  · exact .refl

theorem State.handLost_moves (b : Bank) : Moves calm quiet s (s.handLost b) := by
  unfold State.handLost
  split
  · exact .of_micro (.hands _ rfl fun _ => rfl)
  · exact .refl

/-- A message handed to the intake leaves every bank as it was. -/
@[simp] theorem State.handReply_bank (g : Tag) (b : Option Bank) (body : ReplyBody) (c : Bank) :
    (s.handReply g b body).bank c = s.bank c := by rw [State.handReply_frame]; rfl

@[simp] theorem State.handNeed_bank (b c : Bank) : (s.handNeed b).bank c = s.bank c := by rw [State.handNeed_frame]; rfl

@[simp] theorem State.handLost_bank (b c : Bank) : (s.handLost b).bank c = s.bank c := by rw [State.handLost_frame]; rfl

end

/-! ### The tracker -/

/-- Where an activation of p is counted is the only place that p can stand. -/
theorem countedAt_unique {t : Vector (Option TrackEntry) 6} {p : PRow} (T : Nat)
    (hu : ∀ i j : Fin 6, (t.get i).isSome = true → (t.get i).map TrackEntry.row = (t.get j).map TrackEntry.row → i = j) {j : Fin 6}
    (hj : (t.get j).map TrackEntry.row = some p) : j = (countedAt t T p).1 := by
  obtain ⟨e, he, rfl⟩ := Option.map_eq_some_iff.mp hj
  unfold countedAt
  split
  · next i hi =>
    have := List.find?_some hi
    refine hu j i (by simp [he]) ?_
    cases hx : t.get i <;> simp_all
  · next hn =>
    have := find_finRange_none.mp hn j
    simp [he] at this

/-- An activation leaves no two entries of one row, and queues at most four different rows. -/
theorem BankState.counted_trackerOk {x : BankState} (T : Nat) (p : PRow) (h : x.trackerOk) : (x.counted T p).trackerOk := by
  obtain ⟨hu, hlen, hnd⟩ := h
  have put (n : Nat) (i j : Fin 6) :
      let t := x.tracker.set (countedAt x.tracker T p).1.val (some { row := p, count := n }) (countedAt x.tracker T p).1.isLt
      (t.get i).isSome = true → (t.get i).map TrackEntry.row = (t.get j).map TrackEntry.row → i = j := by
    intro t hs he
    simp only [t, vget_set] at hs he
    by_cases hi : i = (countedAt x.tracker T p).1 <;> by_cases hj : j = (countedAt x.tracker T p).1
    · rw [hi, hj]
    · rw [if_pos hi, if_neg hj] at he
      exact absurd (countedAt_unique T hu he.symm) hj
    · rw [if_neg hi, if_pos hj] at he
      exact absurd (countedAt_unique T hu he) hi
    · rw [if_neg hi] at hs he
      rw [if_neg hj] at he
      exact hu i j hs he
  unfold BankState.counted
  dsimp only
  split
  · split
    · exact ⟨put 0, hlen, hnd⟩
    · next ho =>
      unfold offerOf at ho
      split at ho
      · cases ho
      · next hp =>
        split at ho
        · next hl =>
          simp only [Config.targetQueueLimit] at hl
          refine ⟨put 0, ?_, List.nodup_append.mpr ⟨hnd, by simp, ?_⟩⟩
          · simp only [List.length_append, List.length_cons, List.length_nil]; omega
          · rintro a ha b hb rfl; exact hp (List.mem_singleton.mp hb ▸ ha)
        · cases ho
    · exact ⟨put _, hlen, hnd⟩
  · exact ⟨put _, hlen, hnd⟩

/-- Counting an activation leaves the passover count. -/
theorem BankState.counted_passover (x : BankState) (T : Nat) (p : PRow) : (x.counted T p).passover = x.passover := by
  rw [BankState.counted_frame]

section
variable {calm quiet : Bool}

theorem State.track_moves (b : Bank) (p : PRow) (s : State) : Moves calm quiet s (s.track b p) := by
  have h : Moves calm quiet s (s.setBank b ((s.bank b).counted s.settings.threshold p)) := by
    refine .of_micro (.tracks b _ ?_ ⟨.inl (BankState.counted_passover ..), BankState.counted_trackerOk _ p⟩)
    rw [BankState.counted_frame]
  unfold State.track
  dsimp only
  split
  · exact h.trans (State.raise_moves ..)
  · exact h

theorem State.activate_moves (b : Bank) (p : PRow) (s : State) : Moves calm quiet s (s.activate b p) :=
  (s.port_moves _).trans (State.track_moves ..)

end

/-- The next aggressor taken leaves the rest of the target queue. -/
theorem BankState.takeTarget_adjusts (reach : Nat) (x : BankState) :
    (x.takeTarget reach).passover = x.passover ∧ (x.trackerOk → (x.takeTarget reach).trackerOk) := by
  unfold BankState.takeTarget
  split
  · next hq =>
    split
    · refine ⟨rfl, fun ⟨hu, hlen, hnd⟩ => ⟨hu, ?_, ?_⟩⟩
      · rw [hq] at hlen; exact Nat.le_of_succ_le hlen
      · rw [hq] at hnd; exact (List.nodup_cons.mp hnd).2
    · exact ⟨rfl, id⟩
  · exact ⟨rfl, id⟩
  · exact ⟨rfl, id⟩

/-- The end of a slot clears the tracker or leaves it. -/
theorem BankState.slotDone_trackerOk (U k : Nat) {x : BankState} (h : x.trackerOk) : (x.slotDone U k).trackerOk := by
  obtain ⟨hu, hq⟩ := h
  refine ⟨fun i j hi he => ?_, hq⟩
  unfold BankState.slotDone at hi he
  dsimp only at hi he
  split at hi
  · rw [vget_replicate] at hi; cases hi
  · next hk => rw [if_neg hk] at he; exact hu i j hi he

/-! ### The bank units -/

section
variable {calm quiet : Bool} (b : Bank) (s : State)

/-- An OPEN or CLOSED bank is held by no migration job. -/
theorem BankState.inMigration_of_opened {x : BankState} {r : LRow} {p : PRow} (h : x.shadow = .opened r p) : x.inMigration = false := by
  simp [BankState.inMigration, h]

theorem BankState.inMigration_of_closed {x : BankState} (h : x.shadow = .closed) : x.inMigration = false := by
  simp [BankState.inMigration, h]

theorem State.nameNeed_moves : Moves calm quiet s (s.nameNeed b) := by
  unfold State.nameNeed
  split
  · refine (s.handNeed_moves b).trans (.of_micro (.tracks b _ ?_ (BankState.adjusts_of_eq _ ?_ ?_ ?_))) <;> rw [State.handNeed_bank]
    exact .inl rfl
  · exact .refl

theorem State.linkUp_moves : Moves calm false s s.linkUp := by
  have ready : Moves calm false s { s with link := .up, outbound := s.outbound ++ [.ready] } :=
    Moves.trans (.of_micro (.hands .ready rfl nofun)) (.links _ rfl)
  exact ready.trans (Moves.foldl (fun s b => State.nameNeed_moves b s) _ _)

theorem State.tryLinkUp_moves : Moves calm false s s.tryLinkUp := by
  unfold State.tryLinkUp
  split
  · exact s.linkUp_moves
  · exact .refl

theorem State.revoke_moves {r : LRow} {p : PRow} (h : (s.bank b).shadow = .opened r p) : Moves calm false s (s.revoke b r p) := by
  unfold State.revoke
  refine Moves.trans ?_ (State.raise_moves ..)
  refine Moves.trans ?_ (State.handLost_moves ..)
  exact (s.port_moves _).trans (.unit _ rfl (.inr ⟨BankState.inMigration_of_opened h, rfl⟩))

theorem State.revokeIfForced_moves : Moves calm false s (s.revokeIfForced b) := by
  unfold State.revokeIfForced
  split
  · exact State.revoke_moves b s ‹_›
  · exact .refl

theorem State.closeForReset_moves : Moves calm false s (s.closeForReset b) := by
  unfold State.closeForReset
  split
  · next h => exact (s.port_moves _).trans (.unit _ rfl (.inr ⟨BankState.inMigration_of_opened h, rfl⟩))
  · exact .unit _ rfl (.inl rfl)

theorem State.settle_moves : Moves calm false s (s.settle b) := by
  unfold State.settle
  split
  · exact (State.closeForReset_moves b s).trans (State.tryLinkUp_moves _)
  · exact State.revokeIfForced_moves b s

theorem State.endOrder_moves (body : ReplyBody) : Moves calm false s (s.endOrder b body) := by
  unfold State.endOrder
  split
  · exact .refl
  · refine Moves.trans ?_ (State.settle_moves ..)
    refine (s.handReply_moves ..).trans (.unit _ ?_ (.inl ?_)) <;> rw [State.handReply_bank]

/-- Counting an activation leaves the bank's shadow state. -/
theorem State.activate_shadow (p : PRow) : ((s.activate b p).bank b).shadow = (s.bank b).shadow := by
  have h : (s.activate b p).bank b = (s.bank b).counted s.settings.threshold p := State.track_bank ..
  rw [h, BankState.counted_frame]

theorem State.serveOpen_moves (r : LRow) (h : (s.bank b).inMigration = false) : Moves calm false s (s.serveOpen b r) := by
  have cleared : Moves calm false s (s.setBank b { s.bank b with revoked := false }) := .unit s rfl (.inl rfl)
  unfold State.serveOpen
  dsimp only
  refine Moves.trans ?_ (State.endOrder_moves ..)
  refine Moves.trans (cleared.trans (State.activate_moves ..)) (.unit _ rfl (.inr ⟨?_, rfl⟩))
  unfold BankState.inMigration at *
  rw [State.activate_shadow, State.bank_setBank_self]
  exact h

end

/-! ### The migration engine -/

section
variable {calm quiet : Bool} (s : State)

theorem State.closeBank_moves (b : Bank) : Moves false false s (s.closeBank b) := .job s rfl (.inl rfl)

theorem State.placeClaim_moves (b : Bank) (k : ClaimKind) : Moves false quiet s (s.placeClaim b k) := .table s rfl

theorem State.setActive_moves (a : Option Active) : Moves false quiet s { s with active := a } := .engine s rfl

theorem State.takeJob_moves : Moves false quiet s s.takeJob := by
  unfold State.takeJob
  split
  · next b r q _ hq =>
    have shorter : s.migQueue.length ≤ 8 → q.length ≤ 8 := by rw [hq]; exact Nat.le_of_succ_le
    split
    · refine Moves.trans ?_ (State.placeClaim_moves ..)
      exact Moves.trans (.of_micro (.queues q shorter rfl)) (.engine _ rfl)
    · exact .of_micro (.queues q shorter rfl)
  · exact .refl

theorem State.queueJob_moves {b : Bank} {r : LRow} (h : s.queueFull = false) : Moves false quiet s (s.queueJob b r) := by
  refine Moves.trans (.of_micro (.queues _ (fun _ => ?_) rfl)) (State.takeJob_moves _)
  have hroom : ¬ 8 ≤ s.migQueue.length := of_decide_eq_false h
  simp only [List.length_append, List.length_cons, List.length_nil]
  omega

/-- The record transitions leave the bank unit and the tracker alone. -/
theorem BankState.switched_frame (d : Spare) (e : Rec) (old : Option (Spare × Bool)) (x : BankState) :
    x.switched d e old = { x with records := (x.switched d e old).records, spares := (x.switched d e old).spares } := by
  rcases old with _ | ⟨f, retire⟩ <;> rfl

theorem BankState.giveUp_frame (d : Spare) (e : Rec) (old : Option (Spare × Bool)) (x : BankState) :
    x.giveUp d e old = { x with records := (x.giveUp d e old).records, spares := (x.giveUp d e old).spares } := by
  rcases old with _ | ⟨f, retire⟩ <;> rfl

theorem BankState.poisoned_frame (r : LRow) (n : Nat) (x : BankState) :
    x.poisoned r n = { x with records := (x.poisoned r n).records } := by
  unfold BankState.poisoned; split <;> rfl

theorem State.switchRecord_moves (a : Active) : Moves false quiet s (s.switchRecord a) := by
  unfold State.switchRecord
  split
  · exact .refl
  · split
    · exact (Moves.table s (by rw [BankState.switched_frame])).trans (State.raise_moves ..)
    · exact (Moves.table s rfl).trans (State.raise_moves ..)
    · exact .refl

theorem State.takeSwitch_moves (a : Active) : Moves false false s (s.takeSwitch a) := by
  refine Moves.trans ?_ (State.takeJob_moves _)
  exact ((s.switchRecord_moves a).trans (State.closeBank_moves ..)).trans (.engine _ rfl)

theorem State.abortRecord_moves (a : Active) : Moves false quiet s (s.abortRecord a) := by
  unfold State.abortRecord
  split
  · exact .refl
  · split
    · exact (Moves.table s (by rw [BankState.giveUp_frame])).trans (State.raise_moves ..)
    · exact .refl

theorem State.abortNow_moves (a : Active) : Moves false quiet s (s.abortNow a) := by
  refine Moves.trans ?_ (State.takeJob_moves _)
  refine Moves.trans (Moves.trans ?_ (State.abortRecord_moves _ a)) (.engine _ rfl)
  unfold BankState.withdrawn
  split
  · exact .of_micro (.tables _ _ rfl rfl (.inr rfl))
  · exact .table s rfl

theorem State.enter_moves (a : Active) (p : Phase) (k : ClaimKind) : Moves false quiet s (s.enter a p k) :=
  (s.setActive_moves _).trans (State.placeClaim_moves ..)

theorem State.passDecision_moves (a : Active) : Moves false quiet s (s.passDecision a) := by
  unfold State.passDecision State.beginPass
  split
  · exact s.abortNow_moves a
  · split
    · exact s.enter_moves ..
    · split <;> exact s.enter_moves ..

theorem State.checkFailed_moves (a : Active) : Moves false quiet s (s.checkFailed a) := by
  unfold State.checkFailed State.beginPass
  split
  · exact s.enter_moves ..
  · split <;> exact s.enter_moves ..

theorem State.afterMainChunk_moves (a : Active) : Moves false quiet s (s.afterMainChunk a) := by
  unfold State.afterMainChunk
  dsimp only
  split
  · exact s.abortNow_moves _
  · split
    · exact s.enter_moves ..
    · exact s.passDecision_moves _

theorem State.afterRecopyChunk_moves (a : Active) : Moves false quiet s (s.afterRecopyChunk a) := by
  unfold State.afterRecopyChunk
  split
  · exact s.abortNow_moves _
  · split
    · exact s.enter_moves ..
    · exact s.passDecision_moves _

theorem writeBursts_moves (b : Bank) (p : PRow) (ws : List (Col × Burst)) : Moves calm quiet s (writeBursts b p ws s) :=
  Moves.foldl (fun _ _ => .of_micro (.writes ..)) ws s

theorem State.poisoned_moves (b : Bank) (r : LRow) (n : Nat) : Moves false quiet s (s.setBank b ((s.bank b).poisoned r n)) :=
  .table s (by rw [BankState.poisoned_frame])

theorem State.copyChunk_moves (k : Chunk) : Moves false quiet s (s.copyChunk k) := by
  unfold State.copyChunk
  split
  · exact .refl
  · dsimp only
    refine Moves.trans ?_ (State.setActive_moves ..)
    refine Moves.trans ?_ (State.poisoned_moves ..)
    refine Moves.trans ?_ (writeBursts_moves ..)
    refine Moves.trans ?_ (.other _ rfl)
    exact ((s.port_moves _).trans (State.track_moves ..)).trans (State.track_moves ..)

theorem State.copyFlagged_moves (ks : List Chunk) : Moves false quiet s (s.copyFlagged ks) :=
  Moves.foldl (fun s k => (s.setActive_moves _).trans (State.copyChunk_moves _ k)) ks s

theorem State.switchJob_moves (a : Active) : Moves false false s (s.switchJob a) := by
  unfold State.switchJob
  split
  · exact s.takeSwitch_moves a
  · exact (State.closeBank_moves ..).trans (State.checkFailed_moves ..)

theorem State.grantMigration_moves (b : Bank) (k : ClaimKind) : Moves false false s (s.grantMigration b k) := by
  unfold State.grantMigration
  dsimp only
  split
  · refine Moves.trans ?_ (State.setActive_moves ..)
    exact .job s rfl (.inr rfl)
  · exact .job s rfl (.inr rfl)
  · split
    · split
      · refine Moves.trans ?_ (State.switchJob_moves ..)
        exact .job s rfl (.inr rfl)
      · exact .job s rfl (.inr rfl)
    · exact .job s rfl (.inr rfl)

end

/-! ### The arbiter -/

/-- The lane's candidate is chosen before a claim only below the passover limit. -/
theorem BankState.passover_of_choose_lane {x : BankState} {limit : Nat} {e : Bool} {op : BankOp} (h : x.choose limit e = some (.lane op))
    (hc : (x.presentClaim e).isSome = true) : x.passover < limit := by
  unfold BankState.choose at h
  split at h
  · cases h
  · split at h
    · split at h
      · cases h
      · omega
    · cases h
    · next hp _ => rw [hp] at hc; cases hc
    · cases h

/-- A migration claim is chosen only when it stands and no forced claim does. -/
theorem BankState.choose_eq_migration {x : BankState} {limit : Nat} {e : Bool} {k : ClaimKind}
    (h : x.choose limit e = some (.migration k)) : x.forced = false ∧ x.migClaim = some k := by
  have present {k' : ClaimKind} (hp : x.presentClaim e = some k') : x.migClaim = some k' := by
    unfold BankState.presentClaim at hp
    split at hp
    · cases hp
    · exact hp
  unfold BankState.choose at h
  split at h
  · cases h
  · next hf =>
    refine ⟨Bool.eq_false_of_not_eq_true hf, ?_⟩
    split at h
    · split at h
      · cases h; exact present ‹_›
      · cases h
    · cases h; exact present ‹_›
    · cases h
    · cases h

section
variable {calm quiet : Bool} (b : Bank) (s : State)

/-- The lane's OPEN or REFRESH granted, below the passover limit when a claim waits. -/
theorem State.grantLane_moves (op : BankOp) (w : Bool) (hm : (s.bank b).inMigration = false)
    (h : w = true → (s.bank b).passover < s.settings.passoverLimit) : Moves calm false s (s.grantLane b op w) := by
  have rises : Moves calm false s (s.setBank b { s.bank b with
      passover := if w then (s.bank b).passover + 1 else (s.bank b).passover, claimNew := false }) := by
    refine .of_micro (.tracks b _ rfl ⟨?_, id⟩)
    cases w
    · exact .inl rfl
    · exact .inr (.inr ⟨h rfl, rfl⟩)
  unfold State.grantLane
  dsimp only
  split
  · refine rises.trans (State.serveOpen_moves _ _ _ ?_)
    rw [State.bank_setBank_self]; exact hm
  · rw [← State.setBank_setBank s b { s.bank b with
      passover := if w then (s.bank b).passover + 1 else (s.bank b).passover, claimNew := false }]
    refine rises.trans (.unit _ ?_ (.inr ⟨?_, rfl⟩)) <;> rw [State.bank_setBank_self]
    · rfl
    · exact hm
  all_goals exact .refl

theorem State.grantForced_moves (hm : (s.bank b).inMigration = false) : Moves calm false s (s.grantForced b) :=
  .unit s rfl (.inr ⟨hm, rfl⟩)

/-- A choice of the arbiter is calm but for the grant of a migration claim. -/
theorem State.arbiterChoice_moves (e : Bool) : Moves calm false s (s.arbiterChoice b e) ∨
    ∃ k, (s.bank b).shadow = .closed ∧ (s.bank b).forced = false ∧ (s.bank b).migClaim = some k
      ∧ s.arbiterChoice b e = s.grantMigration b k := by
  unfold State.arbiterChoice
  dsimp only
  split
  · next hc =>
    have hm := BankState.inMigration_of_closed hc.1
    split
    · next c hch =>
      cases c with
      | forced => exact .inl (State.grantForced_moves b s hm)
      | migration k =>
        obtain ⟨hf, hk⟩ := BankState.choose_eq_migration hch
        exact .inr ⟨k, hc.1, hf, hk, rfl⟩
      | lane op => exact .inl (State.grantLane_moves b s op _ hm fun hw => BankState.passover_of_choose_lane hch hw)
    · exact .inl .refl
  · exact .inl .refl

end

/-! ### The refresh unit -/

section
variable {calm quiet : Bool} (b : Bank) (s : State)

theorem State.tickBank_moves : Moves calm false s (s.tickBank b) := by
  have hands {t : State} {c : Bool} (h : Moves calm false s t) : Moves calm false s (if c then t.handNeed b else t) := by
    split
    · exact h.trans (t.handNeed_moves b)
    · exact h
  have revokes {t : State} {c : Bool} (h : Moves calm false s t) : Moves calm false s (if c then t.revokeIfForced b else t) := by
    split
    · exact h.trans (State.revokeIfForced_moves b t)
    · exact h
  unfold State.tickBank
  dsimp only
  split
  · exact hands (revokes (.unit s rfl (.inl rfl)))
  · exact State.raise_moves ..

theorem State.tickAll_moves (first : List Bank) : Moves calm false s (s.tickAll first) :=
  (Moves.foldl (fun s b => State.tickBank_moves b s) _ _).trans (.other _ rfl)

/-- The next aggressor taken changes the target service and the target queue alone. -/
theorem BankState.takeTarget_frame (reach : Nat) (x : BankState) : x.takeTarget reach =
    { x with service := (x.takeTarget reach).service, targets := (x.takeTarget reach).targets } := by
  unfold BankState.takeTarget
  split
  · split <;> rfl
  · rfl
  · rfl

theorem State.serviceOne_moves : Moves calm false s (s.serviceOne b) := by
  unfold State.serviceOne
  split
  · obtain ⟨hp, ht⟩ := BankState.takeTarget_adjusts s.settings.reach (s.bank b)
    refine (s.port_moves _).trans (.of_micro (.unit b _ rfl ?_ (.inl ?_) ⟨.inl hp, ht⟩)) <;> rw [BankState.takeTarget_frame]
    · rfl
    · rfl
  · exact .refl

theorem State.serviceMany_moves (n : Nat) : Moves calm false s (State.serviceMany b n s) := by
  induction n generalizing s with
  | zero => exact .refl
  | succ n ih => exact (State.serviceOne_moves b s).trans (ih _)

theorem State.afterService_moves : Moves calm false s (s.afterService b) := by
  unfold State.afterService
  dsimp only
  split
  · next h =>
    have closed : Moves calm false s (s.setBank b { s.bank b with service := none, shadow := .closed }) :=
      .unit s rfl (.inr ⟨by simp [BankState.inMigration, h], rfl⟩)
    split
    · exact closed.trans (State.endOrder_moves ..)
    · exact closed
  · next h =>
    split
    · exact .unit s rfl (.inr ⟨by simp [BankState.inMigration, h], rfl⟩)
    · exact .unit s rfl (.inl rfl)
  · exact .unit s rfl (.inl rfl)

theorem State.beginService_moves : Moves calm false s (s.beginService b) := by
  obtain ⟨hp, ht⟩ := BankState.takeTarget_adjusts s.settings.reach
    { s.bank b with service := some { left := s.settings.targetsPerRef, current := none } }
  have begins : Moves calm false s (s.setBank b (BankState.takeTarget s.settings.reach
      { s.bank b with service := some { left := s.settings.targetsPerRef, current := none } })) := by
    refine .of_micro (.unit b _ rfl ?_ (.inl ?_) ⟨.inl hp, ht⟩) <;> rw [BankState.takeTarget_frame]
  unfold State.beginService
  dsimp only
  split
  · exact begins
  · exact begins.trans (State.afterService_moves ..)

theorem State.completeSlot_moves (k : Nat) : Moves calm false s (s.completeSlot b k) := by
  have done : Moves calm false (s.port ((slotRows k).map (.refreshRow b)))
      ((s.port ((slotRows k).map (.refreshRow b))).setBank b ((s.bank b).slotDone s.settings.urgentLevel k)) :=
    .of_micro (.unit b _ rfl rfl (.inl rfl) ⟨.inl rfl, BankState.slotDone_trackerOk _ _⟩)
  exact ((s.port_moves _).trans done).trans (State.beginService_moves ..)

theorem State.endService_moves : Moves calm false s (s.endService b) := by
  unfold State.endService
  split
  · exact .refl
  · exact (State.serviceMany_moves ..).trans (State.afterService_moves ..)

end

/-! ### The intake -/

/-- An order that no check rejects finds a free slot and a free tag. -/
theorem State.orderReject_eq_none {s : State} {k t : Byte} {l : List Byte} (h : s.orderReject k t l = none) :
    s.link = .up ∧ s.held.length < 32 ∧ frameTag t ∉ s.held ∧ (parseOrder k (t :: l)).isSome = true := by
  unfold State.orderReject at h
  split at h
  · cases h
  · split at h
    · cases h
    · split at h
      · cases h
      · split at h
        · cases h
        · simp_all [Config.heldLimit, Option.isSome_iff_ne_none]

/-- The tag that an order's frame carries is the low six bits of its tag byte. -/
theorem parseOrder_tag {k t : Byte} {l : List Byte} {o : Order} (h : parseOrder k (t :: l) = some o) : orderTag o = frameTag t := by
  have tag {g : Tag} (hg : toFin? 64 t.toNat = some g) : g = frameTag t := by
    apply Fin.ext
    have hv := toFin?_eq_some.mp hg
    have := g.isLt
    simp only [frameTag, BitVec.extractLsb'_toNat, Nat.shiftRight_zero]
    omega
  unfold parseOrder at h
  dsimp only at h
  split at h
  · split at h
    · simp only [Option.bind_eq_bind, Option.bind_eq_some_iff, Option.pure_def, Option.some.injEq] at h
      obtain ⟨g, hg, -, -, -, -, -, -, rfl⟩ := h
      exact tag hg
    · cases h
  · simp only [Option.bind_eq_bind, Option.bind_eq_some_iff, Option.pure_def, Option.some.injEq] at h
    obtain ⟨g, hg, -, -, rfl⟩ := h
    exact tag hg

section
variable {calm : Bool}

theorem State.acceptOrder_moves {o : Order} {s : State} (hl : s.held.length < 32) (ht : orderTag o ∉ s.held) :
    Moves calm false s (s.acceptOrder o) := by
  have hold : heldOk s.held → heldOk (orderTag o :: s.held) := fun h => ⟨hl, List.nodup_cons.mpr ⟨ht, h.2⟩⟩
  cases o with
  | bank t b op => exact Moves.trans (.of_micro (.holds _ hold rfl)) (.unit _ rfl (.inl rfl))
  | report t b r k => exact Moves.trans (.of_micro (.holds _ hold rfl)) (.links _ rfl)

theorem State.takeOrder_moves (k t : Byte) (l : List Byte) {s : State} (h : s.rejectUnsent = false) : Moves calm false s (s.takeOrder k t l) := by
  unfold State.takeOrder
  split
  · unfold State.rejectOrder
    dsimp only
    split
    · exact .of_micro (.rejects _ _ h)
    · exact Moves.trans (.of_micro (.rejects _ _ h)) (State.raise_moves ..)
  · next o hn ho =>
    obtain ⟨-, hlen, htag, -⟩ := State.orderReject_eq_none hn
    exact State.acceptOrder_moves hlen (parseOrder_tag ho ▸ htag)
  · exact .refl

theorem BankState.linkReset_frame (x : BankState) : x.linkReset = { x with
    lane := x.linkReset.lane, inProgress := x.linkReset.inProgress, revoked := false, reported := false } := by
  unfold BankState.linkReset; split <;> rfl

theorem State.resetBank_moves (b : Bank) (s : State) : Moves calm false s (s.resetBank b) := by
  have told : Moves calm false s (s.setBank b (s.bank b).linkReset) := by
    rw [BankState.linkReset_frame]
    exact .unit s rfl (.inl rfl)
  unfold State.resetBank
  dsimp only
  split
  · exact told.trans (State.closeForReset_moves ..)
  · exact told

theorem State.takeLinkReset_moves (sending : Bool) {s : State} (h : s.rejectUnsent = false) : Moves calm false s (s.takeLinkReset sending) := by
  unfold State.takeLinkReset
  split
  · refine Moves.trans (Moves.trans ?_ (Moves.foldl (fun s b => State.resetBank_moves b s) _ _)) (State.tryLinkUp_moves _)
    rw [State.completeSending_frame]
    have emptied : Moves calm false s { s with held := [], outbound := [] } := by
      refine Moves.trans (.of_micro (.forgets h rfl)) (.of_micro (.holds [] (fun _ => ?_) rfl))
      exact ⟨Nat.zero_le _, List.nodup_nil⟩
    have told : Moves calm false s { s with link := .resetting, held := [], outbound := [], reportLane := [] } :=
      emptied.trans (.links _ rfl)
    exact told.trans (.other _ rfl)
  · exact .refl

theorem State.takeFrame_moves (f : List Byte) {s : State} (h : s.rejectUnsent = false) : Moves calm false s (s.takeFrame f) := by
  unfold State.takeFrame
  split
  · exact .refl
  · split
    · exact State.takeLinkReset_moves _ h
    · split
      · exact State.takeOrder_moves _ _ _ h
      · split
        · exact State.raise_moves ..
        · exact .refl

end

/-! ### The suspect list -/

/-- A list with fewer suspects stays in bounds. -/
theorem suspectsOk_of_sublist {l l' : List Suspect} (hs : l'.Sublist l) (h : suspectsOk l) : suspectsOk l' :=
  ⟨hs.length_le.trans h.1, h.2.1.sublist (hs.map _), fun e he => h.2.2 e (hs.subset he)⟩

/-- A record put in front of a list with room that has none of its key. -/
theorem suspectsOk_cons {l : List Suspect} {e : Suspect} (h : suspectsOk l) (hl : l.length < 32)
    (hk : ∀ f ∈ l, ¬ (f.bank = e.bank ∧ f.row = e.row))
    (hc : e.corrected ≤ 255 ∧ e.uncorrected ≤ 15 ∧ 1 ≤ e.corrected + e.uncorrected) : suspectsOk (e :: l) := by
  obtain ⟨-, hnd, hr⟩ := h
  refine ⟨hl, List.nodup_cons.mpr ⟨fun hm => ?_, hnd⟩, List.forall_mem_cons.mpr ⟨hc, hr⟩⟩
  obtain ⟨f, hf, hfe⟩ := List.mem_map.mp hm
  exact hk f hf ⟨congrArg Prod.fst hfe, congrArg Prod.snd hfe⟩

/-- Counting a report keeps the key and the ranges. -/
theorem Suspect.count_ok (k : ReportKind) (e : Suspect) : (e.count k).bank = e.bank ∧ (e.count k).row = e.row
    ∧ (e.corrected ≤ 255 ∧ e.uncorrected ≤ 15 ∧ 1 ≤ e.corrected + e.uncorrected →
        (e.count k).corrected ≤ 255 ∧ (e.count k).uncorrected ≤ 15 ∧ 1 ≤ (e.count k).corrected + (e.count k).uncorrected) := by
  cases k <;> refine ⟨rfl, rfl, fun h => ?_⟩ <;> simp only [Suspect.count] <;> omega

/-- A first report has a count of 1. -/
theorem Suspect.first_ok (b : Bank) (r : LRow) (k : ReportKind) : (Suspect.first b r k).bank = b ∧ (Suspect.first b r k).row = r
    ∧ ((Suspect.first b r k).corrected ≤ 255 ∧ (Suspect.first b r k).uncorrected ≤ 15
      ∧ 1 ≤ (Suspect.first b r k).corrected + (Suspect.first b r k).uncorrected) := by
  cases k <;> exact ⟨rfl, rfl, by simp [Suspect.first]⟩

/-- The record of a key moved to the front. -/
theorem suspectsOk_count {l : List Suspect} {b : Bank} {r : LRow} {e : Suspect} (k : ReportKind) (he : suspectOf l b r = some e)
    (h : suspectsOk l) : suspectsOk (e.count k :: withoutSuspect l b r) := by
  have hm : e ∈ l := List.mem_of_find?_eq_some he
  have hk : e.bank = b ∧ e.row = r := by simpa [suspectOf, Suspect.isOf] using List.find?_some he
  obtain ⟨hb, hr, hc⟩ := Suspect.count_ok k e
  have hlt : (withoutSuspect l b r).length < l.length := by
    refine List.length_filter_lt_length_iff_exists.mpr ⟨e, hm, ?_⟩
    simp [Suspect.isOf, hk]
  refine suspectsOk_cons (suspectsOk_of_sublist List.filter_sublist h) (hlt.trans_le h.1) (fun f hf => ?_) (hc (h.2.2 e hm))
  have := (List.mem_filter.mp hf).2
  rw [hb, hr, hk.1, hk.2]
  rintro ⟨rfl, rfl⟩
  simp [Suspect.isOf] at this

/-- An eviction takes the last record off the list. -/
theorem State.evictLast_suspectList (s : State) : s.evictLast.suspectList = s.suspectList.dropLast := by
  unfold State.evictLast
  split
  · rfl
  · next h => rw [List.getLast?_eq_none_iff.mp h]; rfl

section
variable {calm quiet : Bool}

/-- The record of a first report put in front of a list whose last record is evicted. -/
theorem State.evictThenFirst_moves {s : State} {e : Suspect}
    (hc : e.corrected ≤ 255 ∧ e.uncorrected ≤ 15 ∧ 1 ≤ e.corrected + e.uncorrected)
    (hk : ∀ f ∈ s.suspectList.dropLast, ¬ (f.bank = e.bank ∧ f.row = e.row)) :
    Moves calm quiet s { s.evictLast with suspectList := e :: s.evictLast.suspectList } := by
  have room (h : suspectsOk s.suspectList) : suspectsOk (e :: s.suspectList.dropLast) := by
    refine suspectsOk_cons (suspectsOk_of_sublist (List.dropLast_sublist _) h) ?_ hk hc
    have := h.1
    rw [List.length_dropLast]; omega
  rw [State.evictLast_suspectList]
  unfold State.evictLast
  split
  · exact Moves.trans (State.raise_moves s ..) (.of_micro (.suspects _ room))
  · exact .of_micro (.suspects _ room)

theorem State.countReport_moves (b : Bank) (r : LRow) (k : ReportKind) (s : State) : Moves calm quiet s (s.countReport b r k).1 := by
  unfold State.countReport
  split
  · next e he => exact .of_micro (.suspects _ (suspectsOk_count k he))
  · next hn =>
    obtain ⟨hb, hr, hc⟩ := Suspect.first_ok b r k
    have fresh {l : List Suspect} (hs : l.Sublist s.suspectList) :
        ∀ f ∈ l, ¬ (f.bank = (Suspect.first b r k).bank ∧ f.row = (Suspect.first b r k).row) := by
      rw [hb, hr]; exact fun f hf => suspectOf_eq_none.mp hn f (hs.subset hf)
    dsimp only
    split
    · exact State.evictThenFirst_moves hc (fresh (List.dropLast_sublist _))
    · next hroom => exact .of_micro (.suspects _ fun h => suspectsOk_cons h (not_le.mp hroom) (fresh (List.Sublist.refl _)) hc)

theorem State.flagFront_moves (s : State) : Moves calm quiet s s.flagFront := by
  unfold State.flagFront
  split
  · next e l hl =>
    refine .of_micro (.suspects _ ?_)
    rw [hl]
    rintro ⟨hlen, hnd, hr⟩
    obtain ⟨he, hr⟩ := List.forall_mem_cons.mp hr
    exact ⟨hlen, hnd, List.forall_mem_cons.mpr ⟨he, hr⟩⟩
  · exact .refl

/-- A steer claim changes the table, the engine and the notices. -/
theorem State.steerClaim_moves (b : Bank) (r : LRow) (o : Origin) (s : State) : Moves false quiet s (s.steerClaim b r o).1 := by
  unfold State.steerClaim
  split
  · split
    · exact State.raise_moves ..
    · split
      · exact .refl
      · next h =>
        refine Moves.trans ?_ (State.queueJob_moves _ (Bool.eq_false_of_not_eq_true h))
        exact .table s rfl
  · split
    · split
      · exact State.raise_moves ..
      · split
        · exact .refl
        · next h =>
          refine Moves.trans ?_ (State.queueJob_moves _ (Bool.eq_false_of_not_eq_true h))
          exact .table s rfl
    all_goals exact .refl

/-- A REPORT taken is calm, but for the automatic steer claim that its evaluation may make. -/
theorem State.takeReport_moves (b : Bank) (r : LRow) (k : ReportKind) (s : State) : ∃ u v, Moves calm quiet s u
    ∧ (v = u ∨ ∃ b' r', v = (u.steerClaim b' r' .auto).1) ∧ Moves calm quiet v (s.takeReport b r k) := by
  have evaluated (e : Suspect) (s : State) : ∃ v, (v = s ∨ ∃ b' r', v = (s.steerClaim b' r' .auto).1)
      ∧ Moves calm quiet v (s.evaluate k e) := by
    unfold State.evaluate
    split
    · refine ⟨_, .inr ⟨e.bank, e.row, rfl⟩, ?_⟩
      split <;> next heq =>
        rw [heq]
        first
          | exact State.flagFront_moves _
          | exact (State.flagFront_moves _).trans (State.raise_moves ..)
          | exact .of_micro (.suspects _ (suspectsOk_of_sublist (List.tail_sublist _)))
    · exact ⟨s, .inl rfl, State.flagFront_moves s⟩
  unfold State.takeReport
  dsimp only
  split
  · obtain ⟨v, hv, hm⟩ := evaluated (s.countReport b r k).2 (s.countReport b r k).1
    exact ⟨_, v, State.countReport_moves b r k s, hv, hm⟩
  · exact ⟨_, _, State.countReport_moves b r k s, .inl rfl, .refl⟩

end

/-! ### The requests -/

section
variable {calm quiet : Bool}

/-- A STEER request is a steer claim of origin MANAGED. -/
theorem State.serveSteer_fst (b : Bank) (r : LRow) (s : State) : (s.serveSteer b r).1 = (s.steerClaim b r .managed).1 := by
  unfold State.serveSteer
  split <;> next heq => rw [heq]

theorem State.cancelMove_moves (b : Bank) (r : LRow) (d : Spare) (e : Rec) (old : Option (Spare × Bool)) (s : State) :
    Moves false quiet s (s.cancelMove b r d e old).1 := by
  refine Moves.trans (.of_micro (.queues _ (fun h => ?_) rfl)) (Moves.table _ (by rw [BankState.giveUp_frame]; rfl))
  exact List.erase_sublist.length_le.trans h

theorem State.serveRelease_moves (b : Bank) (r : LRow) (s : State) : Moves false quiet s (s.serveRelease b r).1 := by
  unfold State.serveRelease
  split
  · exact .refl
  · split
    · split
      · split
        · unfold State.releaseActive
          dsimp only
          split
          · exact .refl
          · split
            · exact s.abortNow_moves _
            · exact s.setActive_moves _
        · exact State.cancelMove_moves ..
      · exact State.cancelMove_moves ..
    · unfold State.startReturn
      split
      · exact .refl
      · next h =>
        refine Moves.trans ?_ (State.queueJob_moves _ (Bool.eq_false_of_not_eq_true h))
        exact .table s rfl
    all_goals exact .refl

theorem State.startProgramming_moves (n : FuseNo) (e : FuseEntry) (s : State) : Moves false quiet s (s.startProgramming n e) := .engine s rfl

theorem State.serveSeal_moves (b : Bank) (r : LRow) (s : State) : Moves false quiet s (s.serveSeal b r).1 := by
  unfold State.serveSeal
  split
  · exact .refl
  · split
    case h_5 =>
      split
      · exact .refl
      · refine Moves.trans ?_ (State.startProgramming_moves ..)
        exact .table s rfl
      · exact .refl
    all_goals exact .refl

theorem State.serveVoid_moves (b : Bank) (d : Spare) (w : Bool) (s : State) : Moves false quiet s (s.serveVoid b d w).1 := by
  have marked : Moves false quiet s (s.setBank b ((s.bank b).setSpare d (.bad false))) := .table s rfl
  have claims : Moves false quiet s (match s.programmerRefuses, toFin? 64 s.nextFree with
      | some r, _ => (s, r, [])
      | none, some n => ((s.setBank b ((s.bank b).setSpare d (.bad false))).startProgramming n (.void b d), .accepted, [0x00, byteOf n.val])
      | none, none => (s, .fuseFull, []) : Answer).1 := by
    split
    · exact .refl
    · exact marked.trans (State.startProgramming_moves ..)
    · exact .refl
  unfold State.serveVoid
  dsimp only
  split
  · exact .refl
  · exact marked
  · exact .refl
  · exact .refl
  · exact claims
  · exact claims

/-- An item set to a value in its range keeps every item in its range. -/
theorem Settings.set_inRange {c : Settings} {i : Item} {v : Nat} (hv : i.inRange v = true) (h : c.inRange) : (c.set i v).inRange := by
  simp only [Item.inRange, Bool.and_eq_true, decide_eq_true_eq] at hv
  unfold Settings.inRange at *
  cases i <;> simp only [Item.range] at hv <;> simp only [Settings.set] <;> omega

/-- An acknowledged entry is not pending and counts 0; a mask leaves both. -/
theorem NoticeEntry.acked_ok (e : NoticeEntry) : noteOk e.acked := by simp [noteOk, NoticeEntry.acked]

/-- Whether a call can change the steering table. -/
def Call.steers : Call → Bool
  | .steer _ _ | .release _ _ | .seal _ _ | .void _ _ _ => true
  | .status | .lookup _ _ | .list _ | .bank _ | .suspects | .forget _ _ | .forgetAll | .fuse _ | .set _ _ | .get _ | .noticeTop
  | .noticeAck _ | .mask _ _ => false

/-- Every other request that passed the checks is calm; a SET that passed them has a value in range. -/
theorem State.serve_moves {c : Call} (s : State) (h : ∀ i v, c = .set i v → i.inRange v = true) (hc : c.steers = false) :
    Moves calm quiet s (s.serve c).1 := by
  cases c with
  | set i v => exact .of_micro (.sets _ (Settings.set_inRange (h i v rfl)))
  | mask k on => exact .of_micro (.notes k _ id)
  | forgetAll => exact .of_micro (.suspects [] fun _ => ⟨Nat.zero_le _, List.nodup_nil, nofun⟩)
  | forget b r =>
    simp only [State.serve, State.serveForget]
    split
    · exact .of_micro (.suspects _ (suspectsOk_of_sublist List.filter_sublist))
    · exact .refl
  | noticeAck k =>
    simp only [State.serve, State.serveAck]
    split
    · exact .of_micro (.notes k _ fun _ => NoticeEntry.acked_ok _)
    · exact .refl
  | lookup b r =>
    simp only [State.serve, State.serveLookup]
    split <;> exact .refl
  | status | list _ | bank _ | suspects | fuse _ | get _ | noticeTop => exact .refl
  | _ => cases hc

end

/-! ### The fuse store and the load -/

section
variable {calm quiet : Bool} (s : State)

theorem State.rowSealResult_moves (b : Bank) (r : LRow) (n : FuseNo) (ok : Bool) : Moves false quiet s (s.rowSealResult b r n ok) := by
  refine Moves.trans ?_ (State.raise_moves ..)
  split
  · split
    · exact .table s rfl
    all_goals exact .refl
  · exact .refl

theorem State.voidSealResult_moves (b : Bank) (d : Spare) (ok : Bool) : Moves false quiet s (s.voidSealResult b d ok) := by
  refine Moves.trans ?_ (State.raise_moves ..)
  split
  · exact .table s rfl
  · exact .refl

theorem State.sealResult_moves (p : Programming) (ok : Bool) : Moves false quiet s (s.sealResult p ok) := by
  unfold State.sealResult
  split
  · exact State.rowSealResult_moves ..
  · exact State.voidSealResult_moves ..

theorem State.endProgramming_moves (p : Programming) (f : FuseBytes) : Moves false quiet s (s.endProgramming p f) := by
  have taken : Moves false quiet s { s with
      fuses := s.fuses.set p.slot.val f p.slot.isLt
      image := s.image.set p.slot.val (if decide (classify f = .valid p.entry) then .entry p.entry else .spoiled) p.slot.isLt
      programmer := none } := .engine s rfl
  refine taken.trans ?_
  exact State.sealResult_moves ..

/-- A load claim changes the bank's table alone. -/
theorem BankState.loadRow_frame (n : FuseNo) (r : LRow) (d : Spare) (x : BankState) :
    (x.loadRow n r d).1 = { x with records := (x.loadRow n r d).1.records, spares := (x.loadRow n r d).1.spares } := by
  unfold BankState.loadRow; split <;> rfl

theorem BankState.loadVoid_frame (d : Spare) (x : BankState) :
    (x.loadVoid d).1 = { x with spares := (x.loadVoid d).1.spares } := by
  unfold BankState.loadVoid; split <;> rfl

theorem State.loadClaim_moves (n : FuseNo) (c : SlotClass) : Moves false quiet s (s.loadClaim n c) := by
  unfold State.loadClaim
  split
  · exact .refl
  · exact .engine s rfl
  · refine Moves.trans (Moves.table s ?_) (.engine _ rfl)
    rw [BankState.loadRow_frame]
  · refine Moves.trans (Moves.table s ?_) (.engine _ rfl)
    rw [BankState.loadVoid_frame]

theorem State.completeSummary_moves : Moves false quiet s s.completeSummary := by
  unfold State.completeSummary
  split
  · exact .engine s rfl
  · exact .refl

theorem State.tryLoadEnd_moves : Moves false false s s.tryLoadEnd := by
  unfold State.tryLoadEnd
  split
  · refine Moves.trans ?_ (State.raise_moves ..)
    exact Moves.trans (.of_micro (.hands .ready rfl nofun)) (.of_micro (.starts _ rfl rfl rfl))
  · exact .refl

theorem State.loadSlot_moves (n : FuseNo) (f : FuseBytes) : Moves false false s (s.loadSlot n f) := by
  refine Moves.trans ?_ (State.tryLoadEnd_moves _)
  refine Moves.trans ?_ (State.completeSummary_moves _)
  refine Moves.trans ?_ (.engine _ rfl)
  refine Moves.trans ?_ (State.loadClaim_moves ..)
  exact .engine s rfl

theorem State.abandonJob_moves (n : Nat) : Moves calm quiet s (s.abandonJob n) := by
  unfold State.abandonJob
  split
  · exact .refl
  · refine Moves.trans ?_ (State.port_moves ..)
    refine Moves.trans ?_ (writeBursts_moves ..)
    exact .other s rfl

end

/-! ### Every change -/

/-- What a change does to the steering table, the engine, the fuse store or the part state, with the guards under which it does it. -/
inductive Shift (s : State) : State → Prop
  | writes (b : Bank) (r : LRow) (c : Col) : Shift s (s.noteWrite b r c)
  | grants {b : Bank} {k : ClaimKind} (hs : (s.bank b).shadow = .closed) (hf : (s.bank b).forced = false)
      (hm : (s.bank b).migClaim = some k) : Shift s (s.grantMigration b k)
  | endsMainChunk {a : Active} {k : Chunk} (ha : s.active = some a) (hs : (s.bank a.bank).shadow = .claimed .copy)
      (hk : a.chunk = some k) (hp : a.phase = .copying) :
      Shift s (((s.copyChunk k).closeBank a.bank).afterMainChunk (a.counted (s.chunkCounts a k)))
  | endsRecopyChunk {a : Active} {k : Chunk} (ha : s.active = some a) (hs : (s.bank a.bank).shadow = .claimed .copy)
      (hk : a.chunk = some k) (hp : a.phase = .recopying) :
      Shift s (((s.copyChunk k).closeBank a.bank).afterRecopyChunk (a.counted (s.chunkCounts a k)))
  | endsFinal {a : Active} (ha : s.active = some a) (hs : (s.bank a.bank).shadow = .claimed .final) :
      Shift s ((s.copyFlagged a.flagged).takeSwitch a)
  | steers (b : Bank) (r : LRow) (o : Origin) : Shift s (s.steerClaim b r o).1
  | releases (b : Bank) (r : LRow) : Shift s (s.serveRelease b r).1
  | seals (b : Bank) (r : LRow) (hp : s.part = .running) : Shift s (s.serveSeal b r).1
  | voids (b : Bank) (d : Spare) (w : Bool) (hp : s.part = .running) : Shift s (s.serveVoid b d w).1
  | programs {p : Programming} (f : FuseBytes) (h : s.programmer = some p) : Shift s (s.endProgramming p f)
  | loads {n : FuseNo} (f : FuseBytes) (hp : s.part = .loading) (hn : s.loadPos = n.val) : Shift s (s.loadSlot n f)
  | starts (hp : s.part = .loading) : Shift s s.tryLoadEnd

/-- A shift is made of small moves too. -/
theorem Shift.moves {s t : State} (h : Shift s t) : Moves false false s t := by
  cases h with
  | writes => exact s.setActive_moves _
  | grants => exact s.grantMigration_moves _ _
  | endsMainChunk => exact ((State.copyChunk_moves ..).trans (State.closeBank_moves ..)).trans (State.afterMainChunk_moves ..)
  | endsRecopyChunk => exact ((State.copyChunk_moves ..).trans (State.closeBank_moves ..)).trans (State.afterRecopyChunk_moves ..)
  | endsFinal => exact (State.copyFlagged_moves ..).trans (State.takeSwitch_moves ..)
  | steers b r o => exact State.steerClaim_moves b r o s
  | releases b r => exact State.serveRelease_moves b r s
  | seals b r => exact State.serveSeal_moves b r s
  | voids b d w => exact State.serveVoid_moves b d w s
  | programs f => exact State.endProgramming_moves ..
  | loads => exact State.loadSlot_moves ..
  | starts => exact State.tryLoadEnd_moves s

/-- Any number of calm small moves and of shifts. -/
abbrev Path : State → State → Prop := Relation.ReflTransGen fun s t => Micro true false s t ∨ Shift s t

theorem Path.of_moves {s t : State} (h : Moves true false s t) : Path s t := by
  induction h with
  | refl => exact .refl
  | tail _ hm ih => exact ih.tail (.inl hm)

theorem Path.of_shift {s t : State} (h : Shift s t) : Path s t := .single (.inr h)

theorem Path.trans {s t u : State} (h : Path s t) (h' : Path t u) : Path s u := Relation.ReflTransGen.trans h h'

/-- A property kept by the calm moves and by the shifts is kept along a path. -/
theorem Path.keeps {P : State → Prop} (hm : ∀ s t, Micro true false s t → P s → P t) (hs : ∀ s t, Shift s t → P s → P t) {s t : State}
    (h : Path s t) (h0 : P s) : P t := by
  induction h with
  | refl => exact h0
  | tail _ hst ih => exact hst.elim (fun h => hm _ _ h ih) (fun h => hs _ _ h ih)

/-- Every change but a send, a wait and a reset is a path of calm moves and shifts. -/
theorem Change.path {s t : State} (h : Change s t) : Path s t ∨ t = s.sendHead
    ∨ (∃ f, s.rejectUnsent = true ∧ t = { s with waiting := s.waiting ++ [f] })
    ∨ ∃ (p : PartState) (u : State), p ≠ .running ∧ t = u.fresh p ∧ Memory.wf s.stack ≤ Memory.wf u.stack := by
  have calm {t : State} (h : Moves true false s t) {Q : Prop} : Path s t ∨ Q := .inl (.of_moves h)
  have shift {t : State} (h : Shift s t) {Q : Prop} : Path s t ∨ Q := .inl (.of_shift h)
  cases h with
  | sends => exact .inr (.inl rfl)
  | resets n m k l =>
    refine .inr (.inr (.inr ⟨.reset, _, nofun, rfl, ?_⟩))
    have keeps : Memory.wf s.stack = true → Memory.wf (s.abandonJob k).stack = true :=
      Moves.keeps (P := State.stackOk) (fun _ _ hm => hm.keeps_stackOk) (State.abandonJob_moves (calm := true) (quiet := true) s k)
    exact Bool.le_iff_imp.mpr keeps
  | releases h => exact .inr (.inr (.inr ⟨.loading, s, nofun, rfl, le_refl _⟩))
  | arrives f =>
    unfold State.arrive
    split
    · exact .inl .refl
    · split
      · next h => exact .inr (.inr (.inl ⟨f, h, rfl⟩))
      · next h => exact calm (State.takeFrame_moves f (Bool.eq_false_of_not_eq_true h))
  | resetsLink rest sending =>
    unfold State.arriveLinkReset
    split
    · exact .inl .refl
    · split
      · next h => exact .inr (.inr (.inl ⟨_, h, rfl⟩))
      · next h => exact calm (State.takeLinkReset_moves sending (Bool.eq_false_of_not_eq_true h))
  | @takesReport p rest =>
    obtain ⟨u, v, hu, hv, ht⟩ := State.takeReport_moves (calm := true) (quiet := false) p.bank p.row p.kind s
    have steered : Path u v := by
      rcases hv with rfl | ⟨b, r, rfl⟩
      · exact .refl
      · exact .of_shift (.steers b r .auto)
    refine .inl (((Path.of_moves hu).trans steered).trans (.of_moves (ht.trans (Moves.trans ?_ (State.handReply_moves ..)))))
    exact .links _ rfl
  | answers body | completes => exact calm (State.endOrder_moves ..)
  | @reads b c r p =>
    refine calm ((s.port_moves [.readBurst b p c]).trans ?_)
    exact .unit _ rfl (.inl rfl)
  | @writes b c v r p =>
    have written : Moves true false s ((s.port [.writeBurst b p c]).writeBurst b p c v) :=
      (s.port_moves _).trans (.of_micro (.writes b p c v))
    exact .inl (((Path.of_moves written).trans (.of_shift (.writes b r c))).trans (.of_moves (.unit _ rfl (.inl rfl))))
  | @closesOpen b r p _ hs =>
    have closed : Moves true false (s.port [.precharge b p]) ((s.port [.precharge b p]).closeBank b) :=
      .unit _ rfl (.inr ⟨BankState.inMigration_of_opened hs, rfl⟩)
    exact calm (((s.port_moves _).trans closed).trans (State.endOrder_moves ..))
  | closesOther =>
    refine calm (Moves.trans ?_ (State.endOrder_moves ..))
    exact .unit s rfl (.inl rfl)
  | chooses b e =>
    rcases State.arbiterChoice_moves (calm := true) b s e with h | ⟨k, hs, hf, hm, h⟩
    · exact calm h
    · rw [h]; exact shift (.grants hs hf hm)
  | endsMainChunk ha hs hk hp => exact shift (.endsMainChunk ha hs hk hp)
  | endsRecopyChunk ha hs hk hp => exact shift (.endsRecopyChunk ha hs hk hp)
  | endsFinal ha hs => exact shift (.endsFinal ha hs)
  | ticks first => exact calm (State.tickAll_moves s first)
  | completesSlot => exact calm (State.completeSlot_moves ..)
  | services b => exact calm (State.serviceOne_moves b s)
  | endsService b => exact calm (State.endService_moves b s)
  | asks => exact calm (.other s rfl)
  | serves c e l hp hc =>
    refine .inl (Path.trans (t := (s.serve c).1) ?_ (.of_moves (.other _ rfl)))
    cases hcs : c.steers with
    | false => exact .of_moves (s.serve_moves hc hcs)
    | true =>
      cases c with
      | steer b r =>
        have h : (s.serve (.steer b r)).1 = (s.steerClaim b r .managed).1 := State.serveSteer_fst b r s
        rw [h]; exact .of_shift (.steers b r .managed)
      | release b r => exact .of_shift (.releases b r)
      | void b d w => exact .of_shift (.voids b d w hp)
      | status | lookup _ _ | list _ | bank _ | suspects | forget _ _ | forgetAll | fuse _ | set _ _ | get _ | noticeTop | noticeAck _ | mask _ _ => cases hcs
      | _ => exact .of_shift (.seals _ _ hp) -- SEAL
  | programs f h => exact shift (.programs f h)
  | loads f hp hn => exact shift (.loads f hp hn)
  | precharges b hp =>
    have marked : Moves true false s ((s.port [.prechargeBank b]).setBank b { s.bank b with precharged := true }) :=
      (s.port_moves _).trans (.unit _ rfl (.inl rfl))
    exact .inl ((Path.of_moves marked).trans (.of_shift (.starts hp)))
  | stays => exact .inl .refl

/-- A property that does not look at the messages and frames of the intake is kept by a send when the calm moves keep it. -/
theorem State.sendHead_keeps {P : State → Prop} (hm : ∀ s t, Micro true false s t → P s → P t)
    (hi : ∀ (s : State) (o : List OutMsg) (w : List (List Byte)), P s → P { s with outbound := o, waiting := w }) {s : State} (hs : P s) :
    P s.sendHead := by
  have waits (l : List (List Byte)) (s : State) (hs : P s) : P (State.takeWaiting l s) := by
    induction l generalizing s with
    | nil => exact hi s s.outbound [] hs
    | cons f l ih =>
      unfold State.takeWaiting
      split
      · exact hi s s.outbound (f :: l) hs
      · next h => exact ih _ (Moves.keeps hm (State.takeFrame_moves f (Bool.eq_false_of_not_eq_true h)) hs)
  unfold State.sendHead
  split
  · exact hs
  · next m q hq =>
    have sent : P { s with outbound := q, linkOut := s.linkOut ++ [m.frame] } :=
      hm _ _ (.other _ rfl) (hi s q s.waiting hs)
    refine waits _ _ ?_
    unfold State.freeTag
    split
    · refine hm _ _ (.holds _ (fun h => ?_) rfl) sent
      exact ⟨List.erase_sublist.length_le.trans h.1, h.2.sublist List.erase_sublist⟩
    all_goals exact sent

/-- A property that the calm moves, the shifts and a reset keep, and that does not look at the intake's messages and frames, is kept by every
step. -/
theorem step_keeps_of_path {P : State → Prop} (hm : ∀ s t, Micro true false s t → P s → P t) (hsh : ∀ s t, Shift s t → P s → P t)
    (hi : ∀ (s : State) (o : List OutMsg) (w : List (List Byte)), P s → P { s with outbound := o, waiting := w })
    (hq : ∀ (s : State) (l : List Instr), P s → P { s with pending := l })
    (hf : ∀ (s u : State) (p : PartState), p ≠ .running → Memory.wf s.stack ≤ Memory.wf u.stack → P s → P (u.fresh p)) {s t : State}
    (h : step s = .next t) (hs : P s) : P t := by
  refine step_keeps hq (fun s t hc hs => ?_) h hs
  rcases hc.path with hp | rfl | ⟨f, -, rfl⟩ | ⟨p, u, hp, rfl, hw⟩
  · exact Path.keeps hm hsh hp hs
  · exact State.sendHead_keeps hm hi hs
  · exact hi s s.outbound _ hs
  · exact hf s u p hp hw hs

/-- The same, for a property that every small move keeps. -/
theorem step_keeps_of_micro {P : State → Prop} (hm : ∀ {calm quiet : Bool} (s t : State), Micro calm quiet s t → P s → P t)
    (hi : ∀ (s : State) (o : List OutMsg) (w : List (List Byte)), P s → P { s with outbound := o, waiting := w })
    (hq : ∀ (s : State) (l : List Instr), P s → P { s with pending := l })
    (hf : ∀ (s u : State) (p : PartState), p ≠ .running → Memory.wf s.stack ≤ Memory.wf u.stack → P s → P (u.fresh p)) {s t : State}
    (h : step s = .next t) (hs : P s) : P t :=
  step_keeps_of_path hm (fun _ _ hsh => Moves.keeps hm hsh.moves) hi hq hf h hs

/-! ### The tables -/

/-- Every bank right after a reset is at its reset values. -/
theorem State.fresh_bank (s : State) (p : PartState) (b : Bank) : (s.fresh p).bank b = BankState.reset := State.reset_bank b

theorem step_keeps_stackOk {s t : State} (h : step s = .next t) (hs : s.stackOk) : t.stackOk :=
  step_keeps_of_micro (P := State.stackOk) (fun _ _ hm => hm.keeps_stackOk) (fun _ _ _ => id) (fun _ _ => id)
    (fun _ _ _ _ hw => Bool.le_iff_imp.mp hw) h hs

section
variable {calm quiet : Bool} {s t : State}

theorem Micro.keeps_listsOk (hm : Micro calm quiet s t) (hs : s.listsOk) : t.listsOk := by
  rw [State.listsOk_iff] at hs ⊢
  obtain ⟨hheld, hsus, hqueue⟩ := hs
  cases hm with
  | holds l h => exact ⟨h hheld, hsus, hqueue⟩
  | suspects l h => exact ⟨hheld, h hsus, hqueue⟩
  | queues q h => exact ⟨hheld, hsus, h hqueue⟩
  | links t ht | starts t ht | engine t ht | other t ht => rw [ht]; exact ⟨hheld, hsus, hqueue⟩
  | _ => exact ⟨hheld, hsus, hqueue⟩

/-- What every small move on a bank leaves: its passover count in its bounds and its tracker in order. -/
theorem Micro.adjusts (hm : Micro calm quiet s t) (c : Bank) : (s.bank c).Adjusts s.settings.passoverLimit (t.bank c) := by
  have same : (s.bank c).Adjusts s.settings.passoverLimit (s.bank c) := ⟨.inl rfl, id⟩
  have set {b : Bank} {x : BankState} (h : (s.bank b).Adjusts s.settings.passoverLimit x) :
      (s.bank c).Adjusts s.settings.passoverLimit ((s.setBank b x).bank c) := by
    rw [State.bank_setBank]
    split
    · next hb => rw [hb]; exact h
    · exact same
  cases hm with
  | unit b x hq hx hs ha => exact set ha
  | tracks b x hx ha => exact set ha
  | tables b x hc hx hp => exact set (BankState.adjusts_of_eq _ hp (by rw [hx]) (by rw [hx]))
  | jobs b x hc hq hx hp => exact set (BankState.adjusts_of_eq _ hp (by rw [hx]) (by rw [hx]))
  | links t ht | starts t ht | engine t ht | other t ht => rw [ht]; exact same
  | _ => exact same

theorem Micro.keeps_settingsOk (hm : Micro calm quiet s t) (hs : s.settingsOk) : t.settingsOk := by
  obtain ⟨hc, hp⟩ := hs
  refine ⟨?_, fun b => ?_⟩
  · cases hm with
    | sets c h => exact h hc
    | links t ht | starts t ht | engine t ht | other t ht => rw [ht]; exact hc
    | _ => exact hc
  · have hb := hp b
    obtain ⟨-, -, -, -, -, -, -, ⟨-, hlimit⟩, -⟩ := hc
    rcases (hm.adjusts b).1 with h | h | ⟨h, h'⟩ <;> omega

theorem Micro.keeps_trackersOk (hm : Micro calm quiet s t) (hs : s.trackersOk) : t.trackersOk :=
  fun b => (hm.adjusts b).2 (hs b)

/-- The notice table with one entry set, and ALERT with it. -/
theorem State.setNotice_noticesOk {k : NoticeKind} {e : NoticeEntry} (he : noteOk (s.notice k) → noteOk e)
    (hs : s.noticesOk) : (s.setNotice k e).noticesOk := by
  refine ⟨fun i => ?_, rfl⟩
  show noteOk ((s.notices.set k.index.val e k.index.isLt).get i)
  rw [vget_set]
  split
  · exact he (hs.1 _)
  · exact hs.1 i

theorem Micro.keeps_noticesOk (hm : Micro calm quiet s t) (hs : s.noticesOk) : t.noticesOk := by
  cases hm with
  | notes k e h => exact State.setNotice_noticesOk h hs
  | links t ht | starts t ht | engine t ht | other t ht => rw [ht]; exact hs
  | _ => exact hs

end

theorem step_keeps_listsOk {s t : State} (h : step s = .next t) (hs : s.listsOk) : t.listsOk := by
  have reset : State.reset.listsOk := by decide
  exact step_keeps_of_micro (P := State.listsOk) (fun _ _ hm => hm.keeps_listsOk) (fun _ _ _ => id) (fun _ _ => id)
    (fun _ _ _ _ _ _ => reset) h hs

theorem step_keeps_settingsOk {s t : State} (h : step s = .next t) (hs : s.settingsOk) : t.settingsOk := by
  refine step_keeps_of_micro (P := State.settingsOk) (fun _ _ hm => hm.keeps_settingsOk) (fun _ _ _ => id) (fun _ _ => id)
    (fun s u p _ _ _ => ?_) h hs
  have reset : Settings.reset.inRange := by decide
  exact ⟨reset, fun b => by rw [State.fresh_bank]; exact Nat.zero_le _⟩

theorem step_keeps_trackersOk {s t : State} (h : step s = .next t) (hs : s.trackersOk) : t.trackersOk := by
  refine step_keeps_of_micro (P := State.trackersOk) (fun _ _ hm => hm.keeps_trackersOk) (fun _ _ _ => id) (fun _ _ => id)
    (fun s u p _ _ _ b => ?_) h hs
  rw [State.fresh_bank]
  exact BankState.reset_ok.1

theorem step_keeps_noticesOk {s t : State} (h : step s = .next t) (hs : s.noticesOk) : t.noticesOk :=
  step_keeps_of_micro (P := State.noticesOk) (fun _ _ hm => hm.keeps_noticesOk) (fun _ _ _ => id) (fun _ _ => id)
    (fun _ _ _ _ _ _ => resetSatisfiesTheInvariants.2.1) h hs

/-! ### The intake -/

/-- No intake REJECT is unsent exactly when the outbound queue holds none. -/
theorem State.rejectUnsent_eq_false_iff {s : State} : s.rejectUnsent = false ↔ s.outbound.countP OutMsg.isIntakeReject = 0 := by
  rw [State.rejectUnsent_eq, List.any_eq_false, List.countP_eq_zero]

/-- A small move leaves at most one intake REJECT unsent. -/
theorem Micro.keeps_oneReject {calm quiet : Bool} {s t : State} (hm : Micro calm quiet s t) (hs : s.outbound.countP OutMsg.isIntakeReject ≤ 1) :
    t.outbound.countP OutMsg.isIntakeReject ≤ 1 := by
  cases hm with
  | hands m h => rw [List.countP_append, List.countP_singleton, if_neg (by simp [h])]; exact hs
  | rejects g r h => rw [List.countP_append, State.rejectUnsent_eq_false_iff.mp h]; exact Nat.le_refl 1
  | forgets h => exact Nat.zero_le 1
  | links t ht | starts t ht | engine t ht | other t ht => rw [ht]; exact hs
  | _ => exact hs

/-- Frames wait behind an unsent intake REJECT after every small move too. -/
theorem Micro.keeps_intakeOk {calm quiet : Bool} {s t : State} (hm : Micro calm quiet s t) (hs : s.intakeOk) : t.intakeOk := by
  refine ⟨hm.keeps_oneReject hs.1, ?_⟩
  obtain ⟨-, hw⟩ := hs
  cases hm with
  | hands m h =>
    intro hne
    rw [State.rejectUnsent_eq, List.any_append, ← State.rejectUnsent_eq, hw hne]; rfl
  | rejects g r h =>
    intro hne
    exact absurd (hw hne) (by simp [h])
  | forgets h =>
    intro hne
    exact absurd (hw hne) (by simp [h])
  | links t ht | starts t ht | engine t ht | other t ht => rw [ht]; exact hw
  | _ => exact hw

/-- Taking the frames that wait ends with none left or behind an intake REJECT. -/
theorem State.takeWaiting_intakeOk (l : List (List Byte)) {s : State} (hs : s.outbound.countP OutMsg.isIntakeReject ≤ 1) :
    (State.takeWaiting l s).intakeOk := by
  induction l generalizing s with
  | nil => exact ⟨hs, fun h => absurd rfl h⟩
  | cons f l ih =>
    unfold State.takeWaiting
    split
    · next h => exact ⟨hs, fun _ => h⟩
    · next h =>
      exact ih (Moves.keeps (P := fun s => s.outbound.countP OutMsg.isIntakeReject ≤ 1) (fun _ _ hm => hm.keeps_oneReject)
        (State.takeFrame_moves (calm := true) f (Bool.eq_false_of_not_eq_true h)) hs)

/-- A reply freed its tag leaves the outbound queue. -/
theorem State.freeTag_outbound (m : OutMsg) (s : State) : (s.freeTag m).outbound = s.outbound := by
  rw [State.freeTag_frame]

theorem step_keeps_intakeOk {s t : State} (h : step s = .next t) (hs : s.intakeOk) : t.intakeOk := by
  refine step_keeps (P := State.intakeOk) (fun _ _ => id) (fun s t hc hs => ?_) h hs
  rcases hc.path with hp | rfl | ⟨f, hr, rfl⟩ | ⟨p, u, -, rfl, -⟩
  · exact Path.keeps (fun _ _ hm => hm.keeps_intakeOk) (fun _ _ hsh => Moves.keeps (fun _ _ hm => hm.keeps_intakeOk) hsh.moves) hp hs
  · unfold State.sendHead
    split
    · exact hs
    · next m q hq =>
      refine State.takeWaiting_intakeOk _ ?_
      rw [State.freeTag_outbound]
      have := hs.1
      rw [hq, List.countP_cons] at this
      exact (Nat.le_add_right _ _).trans this
  · exact ⟨hs.1, fun _ => hr⟩
  · exact ⟨Nat.zero_le 1, fun h => absurd rfl h⟩

/-- Settles O55: each of the six is kept by the small moves that every change is made of. -/
theorem stepKeepsTheTables : Obligations.StepKeepsTheTables := fun _ _ h =>
  ⟨step_keeps_settingsOk h, step_keeps_listsOk h, step_keeps_intakeOk h, step_keeps_trackersOk h, step_keeps_noticesOk h,
    step_keeps_stackOk h⟩

end Sys2Proof.Machine
end

section
/-! The steering table of one bank: what each transition of a record leaves of it. -/
namespace Sys2Proof.Machine

/-! ### Rows, from-spares and spare states after a write -/

section
variable (x : BankState) (d d' : Spare) (e : Option Rec) (v : SpareState)

/-- The row of the record in a slot, if one stands there. -/
def BankState.rowAt : Option LRow := (x.records.get d).map Rec.row

@[simp] theorem BankState.setRec_records_get : (x.setRec d e).records.get d' = if d' = d then e else x.records.get d' := vget_set ..

@[simp] theorem BankState.setRec_spares : (x.setRec d e).spares = x.spares := rfl

@[simp] theorem BankState.setSpare_records : (x.setSpare d v).records = x.records := rfl

@[simp] theorem BankState.setSpare_spares_get : (x.setSpare d v).spares.get d' = if d' = d then v else x.spares.get d' := vget_set ..

@[simp] theorem BankState.setRec_rowAt : (x.setRec d e).rowAt d' = if d' = d then e.map Rec.row else x.rowAt d' := by
  unfold BankState.rowAt; rw [BankState.setRec_records_get]; split <;> rfl

@[simp] theorem BankState.setSpare_rowAt : (x.setSpare d v).rowAt d' = x.rowAt d' := rfl

@[simp] theorem BankState.setRec_fromSpare :
    (x.setRec d e).fromSpare d' = if d' = d then e.bind (fun e => e.state.old.map Prod.fst) else x.fromSpare d' := by
  unfold BankState.fromSpare; rw [BankState.setRec_records_get]; split <;> rfl

@[simp] theorem BankState.setSpare_fromSpare : (x.setSpare d v).fromSpare d' = x.fromSpare d' := rfl

variable {x d}

theorem BankState.rowAt_eq {e : Rec} (h : x.records.get d = some e) : x.rowAt d = some e.row := by simp [BankState.rowAt, h]

theorem BankState.fromSpare_eq {e : Rec} (h : x.records.get d = some e) : x.fromSpare d = e.state.old.map Prod.fst := by
  simp [BankState.fromSpare, h]

/-- A slot that names a from-spare holds a record. -/
theorem BankState.rowAt_of_fromSpare {f : Spare} (h : x.fromSpare d = some f) : x.rowAt d ≠ none := by
  unfold BankState.fromSpare at h
  unfold BankState.rowAt
  cases hr : x.records.get d <;> simp_all

end

/-- The table of one bank, said of the rows, the from-spares and the states of its spares (R3, R4). -/
theorem BankState.tableOk_iff {x : BankState} : x.tableOk ↔
    (∀ d d' r, x.rowAt d = some r → x.rowAt d' = some r → d = d')
      ∧ (∀ d, x.spares.get d = .held ↔ x.rowAt d ≠ none ∨ ∃ d', x.fromSpare d' = some d)
      ∧ (∀ d f, x.fromSpare d = some f → x.rowAt f = none)
      ∧ ∀ d d' f, x.fromSpare d = some f → x.fromSpare d' = some f → d = d' := by
  have some_iff (d : Spare) : (x.records.get d).isSome = true ↔ x.rowAt d ≠ none := by
    unfold BankState.rowAt; cases x.records.get d <;> simp
  have none_iff (d : Spare) : x.records.get d = none ↔ x.rowAt d = none := by
    unfold BankState.rowAt; cases x.records.get d <;> simp
  have unique {α : Type} (g : Spare → Option α) : (∀ d d', g d ≠ none → g d = g d' → d = d') ↔
      ∀ d d' r, g d = some r → g d' = some r → d = d' := by
    constructor
    · intro h d d' r h1 h2; exact h d d' (by simp [h1]) (h1.trans h2.symm)
    · intro h d d' h1 h2
      obtain ⟨r, hr⟩ := Option.ne_none_iff_exists'.mp h1
      exact h d d' r hr (h2 ▸ hr)
  unfold BankState.tableOk
  simp only [some_iff, none_iff, Option.isSome_iff_ne_none]
  exact and_congr (unique x.rowAt) (and_congr Iff.rfl (and_congr Iff.rfl (unique x.fromSpare)))

/-! ### The transitions of a record keep the table -/

section
variable {x : BankState}

theorem BankState.noRecord_iff {r : LRow} : x.noRecord r ↔ ∀ d, x.rowAt d ≠ some r := by
  unfold BankState.noRecord BankState.rowAt
  constructor
  · intro h d hd
    obtain ⟨e, he, hr⟩ := Option.map_eq_some_iff.mp hd
    exact h d e he hr
  · intro h d e he hr
    exact h d (by simp [he, hr])

/-- A FREE spare's slot is empty, and no record names it. -/
theorem BankState.of_not_held (h : x.tableOk) {d : Spare} (hd : x.spares.get d ≠ .held) :
    x.rowAt d = none ∧ x.fromSpare d = none ∧ ∀ d', x.fromSpare d' ≠ some d := by
  obtain ⟨-, hh, -, -⟩ := BankState.tableOk_iff.mp h
  have hn := fun hor => hd ((hh d).mpr hor)
  have hrow : x.rowAt d = none := by_contra fun h => hn (.inl h)
  refine ⟨hrow, ?_, fun d' h => hn (.inr ⟨d', h⟩)⟩
  cases hf : x.fromSpare d with
  | none => rfl
  | some f => exact absurd hrow (BankState.rowAt_of_fromSpare hf)

theorem BankState.firstSteer_tableOk (h : x.tableOk) {r : LRow} {d : Spare} (o : Origin) (hr : x.noRecord r)
    (hd : x.spares.get d = .free) : (x.firstSteer r d o).tableOk := by
  obtain ⟨hrow, hfrom, hnamed⟩ := BankState.of_not_held (d := d) h (by simp [hd])
  rw [BankState.noRecord_iff] at hr
  rw [BankState.tableOk_iff] at h ⊢
  simp only [BankState.firstSteer, BankState.setSpare_rowAt, BankState.setRec_rowAt, BankState.setSpare_spares_get,
    BankState.setRec_spares, BankState.setSpare_fromSpare, BankState.setRec_fromSpare, RecState.old, Option.map_some, Option.bind_some,
    Option.map_none]
  grind

theorem BankState.reSteer_tableOk (h : x.tableOk) {f d : Spare} {e : Rec} (o : Origin) (retire : Bool) (he : x.records.get f = some e)
    (hs : e.state = .steered) (hd : x.spares.get d = .free) : (x.reSteer f e d o retire).tableOk := by
  obtain ⟨hrow, hfrom, hnamed⟩ := BankState.of_not_held (d := d) h (by simp [hd])
  have hrf := BankState.rowAt_eq he
  have hff : x.fromSpare f = none := by rw [BankState.fromSpare_eq he, hs]; rfl
  rw [BankState.tableOk_iff] at h ⊢
  simp only [BankState.reSteer, BankState.setSpare_rowAt, BankState.setRec_rowAt, BankState.setSpare_spares_get,
    BankState.setRec_spares, BankState.setSpare_fromSpare, BankState.setRec_fromSpare, RecState.old, Option.map_some, Option.bind_some,
    Option.map_none, Option.bind_none]
  grind

theorem BankState.giveUp_tableOk (h : x.tableOk) {d : Spare} {e : Rec} {old : Option (Spare × Bool)} (he : x.records.get d = some e)
    (hs : e.state = .migrating old) : (x.giveUp d e old).tableOk := by
  have hrd := BankState.rowAt_eq he
  have hfd := BankState.fromSpare_eq he
  have hrow (d' f : Spare) : x.fromSpare d' = some f → x.rowAt d' ≠ none := BankState.rowAt_of_fromSpare
  rw [hs] at hfd
  rw [BankState.tableOk_iff] at h ⊢
  rcases old with _ | ⟨f, retire⟩ <;>
    simp only [BankState.giveUp, BankState.setSpare_rowAt, BankState.setRec_rowAt, BankState.setSpare_spares_get,
      BankState.setRec_spares, BankState.setSpare_fromSpare, BankState.setRec_fromSpare, RecState.old, Option.map_some, Option.bind_some,
      Option.map_none, Option.bind_none] at hfd ⊢ <;>
    grind

theorem BankState.switched_tableOk (h : x.tableOk) {d : Spare} {e : Rec} {old : Option (Spare × Bool)} (he : x.records.get d = some e)
    (hs : e.state = .migrating old) : (x.switched d e old).tableOk := by
  have hrd := BankState.rowAt_eq he
  have hfd := BankState.fromSpare_eq he
  rw [hs] at hfd
  rw [BankState.tableOk_iff] at h ⊢
  rcases old with _ | ⟨f, _ | _⟩ <;>
    simp only [BankState.switched, BankState.setSpare_rowAt, BankState.setRec_rowAt, BankState.setSpare_spares_get,
      BankState.setRec_spares, BankState.setSpare_fromSpare, BankState.setRec_fromSpare, RecState.old, Option.map_some, Option.bind_some,
      Option.map_none] at hfd ⊢ <;>
    grind

theorem BankState.returned_tableOk (h : x.tableOk) {d : Spare} {e : Rec} (he : x.records.get d = some e)
    (hs : e.state = .returning) : (x.returned d).tableOk := by
  have hrd := BankState.rowAt_eq he
  have hfd := BankState.fromSpare_eq he
  rw [hs] at hfd
  rw [BankState.tableOk_iff] at h ⊢
  simp only [BankState.returned, BankState.setSpare_rowAt, BankState.setRec_rowAt, BankState.setSpare_spares_get,
    BankState.setRec_spares, BankState.setSpare_fromSpare, BankState.setRec_fromSpare, RecState.old, Option.map_none,
    Option.bind_none] at hfd ⊢
  grind

/-- A record written over one of its row with its from-spare keeps the table. -/
theorem BankState.setRec_tableOk (h : x.tableOk) {d : Spare} {e e' : Rec} (he : x.records.get d = some e) (hr : e'.row = e.row)
    (ho : e'.state.old = e.state.old) : (x.setRec d (some e')).tableOk := by
  have rows (d' : Spare) : (x.setRec d (some e')).rowAt d' = x.rowAt d' := by
    rw [BankState.setRec_rowAt]
    split
    · next hd => rw [hd, BankState.rowAt_eq he, Option.map_some, hr]
    · rfl
  have froms (d' : Spare) : (x.setRec d (some e')).fromSpare d' = x.fromSpare d' := by
    rw [BankState.setRec_fromSpare]
    split
    · next hd => rw [hd, BankState.fromSpare_eq he, Option.bind_some, ho]
    · rfl
  rw [BankState.tableOk_iff] at h ⊢
  simpa only [rows, froms, BankState.setRec_spares] using h

/-- A spare that is not HELD given another state that is not HELD keeps the table. -/
theorem BankState.setSpare_tableOk (h : x.tableOk) {d : Spare} {v : SpareState} (hd : x.spares.get d ≠ .held) (hv : v ≠ .held) :
    (x.setSpare d v).tableOk := by
  obtain ⟨hrow, -, hnamed⟩ := BankState.of_not_held h hd
  rw [BankState.tableOk_iff] at h ⊢
  simp only [BankState.setSpare_rowAt, BankState.setSpare_spares_get, BankState.setSpare_fromSpare]
  grind

theorem BankState.loadRow_tableOk (h : x.tableOk) (n : FuseNo) (r : LRow) (d : Spare) : (x.loadRow n r d).1.tableOk := by
  unfold BankState.loadRow
  split
  · exact h
  · next hc =>
    simp only [not_or, Option.not_isSome_iff_eq_none, BankState.recOf_eq_none, ne_eq, not_not] at hc
    obtain ⟨hr, hd⟩ := hc
    obtain ⟨hrow, hfrom, hnamed⟩ := BankState.of_not_held (d := d) h (by simp [hd])
    rw [BankState.noRecord_iff] at hr
    rw [BankState.tableOk_iff] at h ⊢
    simp only [BankState.setSpare_rowAt, BankState.setRec_rowAt, BankState.setSpare_spares_get, BankState.setRec_spares,
      BankState.setSpare_fromSpare, BankState.setRec_fromSpare, RecState.old, Option.map_some, Option.bind_some, Option.map_none]
    grind

theorem BankState.loadVoid_tableOk (h : x.tableOk) (d : Spare) : (x.loadVoid d).1.tableOk := by
  unfold BankState.loadVoid
  split
  · exact h
  · next hd => exact BankState.setSpare_tableOk h (by simp_all) nofun

/-- The poison count of a record is no part of the table. -/
theorem BankState.poisoned_tableOk (h : x.tableOk) (r : LRow) (n : Nat) : (x.poisoned r n).tableOk := by
  unfold BankState.poisoned
  split
  · exact h
  · next d e he => exact BankState.setRec_tableOk h (BankState.recOf_some he).1 rfl rfl

end

end Sys2Proof.Machine
end

section
/-! The steering table, the spare pool and the seals after every step (O58). -/
namespace Sys2Proof.Machine

/-! ### What the calm moves leave -/

/-- What the calm moves leave: the steering table, the claims and jobs of the engine, the fuse store and the part state. -/
structure Calm (s t : State) : Prop where
  records : ∀ b, (t.bank b).records = (s.bank b).records
  spares : ∀ b, (t.bank b).spares = (s.bank b).spares
  migClaim : ∀ b, (t.bank b).migClaim = (s.bank b).migClaim
  shadow : ∀ b, (s.bank b).ShadowCalm (t.bank b)
  active : t.active = s.active
  migQueue : t.migQueue = s.migQueue
  programmer : t.programmer = s.programmer
  image : t.image = s.image
  nextFree : t.nextFree = s.nextFree
  part : t.part = s.part
  loadPos : t.loadPos = s.loadPos

theorem Calm.refl (s : State) : Calm s s :=
  ⟨fun _ => rfl, fun _ => rfl, fun _ => rfl, fun _ => .inl rfl, rfl, rfl, rfl, rfl, rfl, rfl, rfl⟩

/-- One bank changes, but for its table, its claim and a migration job that holds it. -/
theorem Calm.setBank {s : State} {b : Bank} {x : BankState} (hr : x.records = (s.bank b).records) (hs : x.spares = (s.bank b).spares)
    (hm : x.migClaim = (s.bank b).migClaim) (hsh : (s.bank b).ShadowCalm x) : Calm s (s.setBank b x) := by
  refine ⟨fun c => ?_, fun c => ?_, fun c => ?_, fun c => ?_, rfl, rfl, rfl, rfl, rfl, rfl, rfl⟩ <;>
    rw [State.bank_setBank] <;> split
  · next h => rw [h]; exact hr
  · rfl
  · next h => rw [h]; exact hs
  · rfl
  · next h => rw [h]; exact hm
  · rfl
  · next h => rw [h]; exact hsh
  · exact .inl rfl

theorem Micro.calm {quiet : Bool} {s t : State} (h : Micro true quiet s t) : Calm s t := by
  cases h with
  | unit b x hq hx hs ha => exact Calm.setBank (by rw [hx]) (by rw [hx]) (by rw [hx]) hs
  | tracks b x hx ha => exact Calm.setBank (by rw [hx]) (by rw [hx]) (by rw [hx]) (.inl (by rw [hx]))
  | tables b x hc | jobs b x hc | queues q h hc | starts t ht hc | engine t ht hc => cases hc
  | links t ht | other t ht => rw [ht]; exact ⟨fun _ => rfl, fun _ => rfl, fun _ => rfl, fun _ => .inl rfl, rfl, rfl, rfl, rfl, rfl, rfl, rfl⟩
  | notes | hands | rejects | forgets | holds | suspects | sets | writes =>
    exact ⟨fun _ => rfl, fun _ => rfl, fun _ => rfl, fun _ => .inl rfl, rfl, rfl, rfl, rfl, rfl, rfl, rfl⟩

/-! ### One bank's table -/

/-- A bank's table stays in order, and a BAD spare BAD. -/
def BankState.KeepsTable (x y : BankState) : Prop :=
  x.tableOk → y.tableOk ∧ ∀ d, (x.spares.get d).isBad = true → (y.spares.get d).isBad = true

/-- Every SEALING or SEALED record of a bank stood there before. -/
def BankState.NoNewSeal (x y : BankState) : Prop :=
  ∀ d e, y.records.get d = some e → e.state.sealSlot ≠ none →
    ∃ e', x.records.get d = some e' ∧ e'.row = e.row ∧ e'.state = e.state

/-- What a change of one bank's table does that touches no seal. -/
def BankState.TableStep (x y : BankState) : Prop := x.KeepsTable y ∧ x.NoNewSeal y

section
variable {x y z : BankState}

theorem BankState.KeepsTable.trans (h : x.KeepsTable y) (h' : y.KeepsTable z) : x.KeepsTable z := fun hx => by
  obtain ⟨hy, hb⟩ := h hx
  obtain ⟨hz, hb'⟩ := h' hy
  exact ⟨hz, fun d hd => hb' d (hb d hd)⟩

theorem BankState.TableStep.trans (h : x.TableStep y) (h' : y.TableStep z) : x.TableStep z := by
  refine ⟨h.1.trans h'.1, fun d e he hs => ?_⟩
  obtain ⟨e1, he1, hr1, hs1⟩ := h'.2 d e he hs
  obtain ⟨e2, he2, hr2, hs2⟩ := h.2 d e1 he1 (hs1 ▸ hs)
  exact ⟨e2, he2, hr2.trans hr1, hs2.trans hs1⟩

theorem BankState.KeepsTable.of_eq (hr : y.records = x.records) (hs : y.spares = x.spares) : x.KeepsTable y := fun hx => by
  refine ⟨?_, fun d hd => by rw [hs]; exact hd⟩
  unfold BankState.tableOk BankState.fromSpare at *
  rwa [hr, hs]

theorem BankState.TableStep.of_eq (hr : y.records = x.records) (hs : y.spares = x.spares) : x.TableStep y :=
  ⟨.of_eq hr hs, fun _ e he _ => ⟨e, hr ▸ he, rfl, rfl⟩⟩

theorem BankState.TableStep.refl (x : BankState) : x.TableStep x := .of_eq rfl rfl

/-- Setting a spare that is not BAD, or to BAD, leaves every BAD spare BAD. -/
theorem BankState.setSpare_isBad {d d' : Spare} {v : SpareState} (h : (x.spares.get d).isBad = true → v.isBad = true)
    (hd : (x.spares.get d').isBad = true) : ((x.setSpare d v).spares.get d').isBad = true := by
  rw [BankState.setSpare_spares_get]
  split
  · next he => subst he; exact h hd
  · exact hd

/-- A slot set to a record without a seal, or emptied, adds no seal. -/
theorem BankState.setRec_noNewSeal {d : Spare} {e : Option Rec} (he : ∀ e', e = some e' → e'.state.sealSlot = none) :
    x.NoNewSeal (x.setRec d e) := by
  intro d' e' hr hs
  rw [BankState.setRec_records_get] at hr
  split at hr
  · exact absurd (he e' hr) hs
  · exact ⟨e', hr, rfl, rfl⟩

theorem BankState.NoNewSeal.trans (h : x.NoNewSeal y) (h' : y.NoNewSeal z) : x.NoNewSeal z := fun d e he hs => by
  obtain ⟨e1, he1, hr1, hs1⟩ := h' d e he hs
  obtain ⟨e2, he2, hr2, hs2⟩ := h d e1 he1 (hs1 ▸ hs)
  exact ⟨e2, he2, hr2.trans hr1, hs2.trans hs1⟩

theorem BankState.firstSteer_step {r : LRow} {d : Spare} (o : Origin) (hr : x.noRecord r) (hd : x.spares.get d = .free) :
    x.TableStep (x.firstSteer r d o) := by
  refine ⟨fun hx => ⟨BankState.firstSteer_tableOk hx o hr hd, fun d' => BankState.setSpare_isBad (by simp [hd, SpareState.isBad])⟩, ?_⟩
  exact BankState.setRec_noNewSeal (by rintro _ ⟨⟩; rfl)

theorem BankState.reSteer_step {f d : Spare} {e : Rec} (o : Origin) (retire : Bool) (he : x.records.get f = some e)
    (hs : e.state = .steered) (hd : x.spares.get d = .free) : x.TableStep (x.reSteer f e d o retire) := by
  refine ⟨fun hx => ⟨BankState.reSteer_tableOk hx o retire he hs hd,
    fun d' => BankState.setSpare_isBad (by simp [hd, SpareState.isBad])⟩, ?_⟩
  exact (BankState.setRec_noNewSeal (e := none) nofun).trans (BankState.setRec_noNewSeal (by rintro _ ⟨⟩; rfl))

/-- A slot with a record is that of a HELD spare. -/
theorem BankState.held_of_record (h : x.tableOk) {d : Spare} {e : Rec} (he : x.records.get d = some e) : x.spares.get d = .held :=
  (h.2.1 d).mpr (.inl (by simp [he]))

/-- A from-spare is HELD. -/
theorem BankState.held_of_fromSpare (h : x.tableOk) {d f : Spare} {retire : Bool} {e : Rec} (he : x.records.get d = some e)
    (hs : e.state = .migrating (some (f, retire))) : x.spares.get f = .held :=
  (h.2.1 f).mpr (.inr ⟨d, by simp [BankState.fromSpare, he, hs, RecState.old]⟩)

theorem BankState.giveUp_step {d : Spare} {e : Rec} {old : Option (Spare × Bool)} (he : x.records.get d = some e)
    (hs : e.state = .migrating old) : x.TableStep (x.giveUp d e old) := by
  have bad (hx : x.tableOk) (d' : Spare) (h : (x.spares.get d').isBad = true) :
      (((x.setRec d none).setSpare d .free).spares.get d').isBad = true :=
    BankState.setSpare_isBad (by simp [BankState.held_of_record hx he, SpareState.isBad]) h
  refine ⟨fun hx => ⟨BankState.giveUp_tableOk hx he hs, ?_⟩, ?_⟩
  · rcases old with _ | ⟨f, retire⟩ <;> exact bad hx
  · rcases old with _ | ⟨f, retire⟩
    · exact BankState.setRec_noNewSeal (e := none) nofun
    · exact (BankState.setRec_noNewSeal (e := none) nofun).trans (BankState.setRec_noNewSeal (by rintro _ ⟨⟩; rfl))

theorem BankState.switched_step {d : Spare} {e : Rec} {old : Option (Spare × Bool)} (he : x.records.get d = some e)
    (hs : e.state = .migrating old) : x.TableStep (x.switched d e old) := by
  refine ⟨fun hx => ⟨BankState.switched_tableOk hx he hs, ?_⟩, ?_⟩
  · rcases old with _ | ⟨f, retire⟩
    · exact fun _ => id
    · intro d' h
      have hf := BankState.held_of_fromSpare hx he hs
      exact BankState.setSpare_isBad (x := x.setRec d _) (by simp [hf, SpareState.isBad]) h
  · rcases old with _ | ⟨f, retire⟩ <;> exact BankState.setRec_noNewSeal (by rintro _ ⟨⟩; rfl)

theorem BankState.returned_step {d : Spare} {e : Rec} (he : x.records.get d = some e) (hs : e.state = .returning) :
    x.TableStep (x.returned d) := by
  refine ⟨fun hx => ⟨BankState.returned_tableOk hx he hs, fun d' => ?_⟩, BankState.setRec_noNewSeal (e := none) nofun⟩
  exact BankState.setSpare_isBad (x := x.setRec d none) (by simp [BankState.held_of_record hx he, SpareState.isBad])

/-- A record put into another state without a from-spare. -/
theorem BankState.restate_keepsTable {d : Spare} {e : Rec} {st : RecState} (he : x.records.get d = some e) (ho : e.state.old = none)
    (ho' : st.old = none) : x.KeepsTable (x.restate d e st) := fun hx =>
  ⟨BankState.setRec_tableOk hx he rfl (ho'.trans ho.symm), fun _ => id⟩

theorem BankState.poisoned_step (r : LRow) (n : Nat) (x : BankState) : x.TableStep (x.poisoned r n) := by
  refine ⟨fun hx => ⟨BankState.poisoned_tableOk hx r n, fun d hd => by rw [BankState.poisoned_frame]; exact hd⟩, ?_⟩
  unfold BankState.poisoned
  split
  · exact fun d e he _ => ⟨e, he, rfl, rfl⟩
  · next d e he =>
    intro d' e' hr hs
    rw [BankState.setRec_records_get] at hr
    split at hr
    · next h => cases hr; exact ⟨e, h ▸ (BankState.recOf_some he).1, rfl, rfl⟩
    · exact ⟨e', hr, rfl, rfl⟩

theorem BankState.loadRow_keepsTable (n : FuseNo) (r : LRow) (d : Spare) (x : BankState) : x.KeepsTable (x.loadRow n r d).1 := by
  refine fun hx => ⟨BankState.loadRow_tableOk hx n r d, fun d' => ?_⟩
  unfold BankState.loadRow
  split
  · exact id
  · next hc =>
    simp only [not_or, ne_eq, not_not] at hc
    exact BankState.setSpare_isBad (x := x.setRec d _) (by simp [hc.2, SpareState.isBad])

theorem BankState.loadVoid_keepsTable (d : Spare) (x : BankState) : x.KeepsTable (x.loadVoid d).1 := by
  refine fun hx => ⟨BankState.loadVoid_tableOk hx d, fun d' => ?_⟩
  unfold BankState.loadVoid
  split
  · exact id
  · exact BankState.setSpare_isBad fun _ => rfl

/-- A spare that is not HELD made BAD. -/
theorem BankState.setBad_step {d : Spare} (v : Bool) (h : x.tableOk → x.spares.get d ≠ .held) :
    x.TableStep (x.setSpare d (.bad v)) :=
  ⟨fun hx => ⟨BankState.setSpare_tableOk hx (h hx) nofun, fun _ => BankState.setSpare_isBad fun _ => rfl⟩,
    fun _ e he _ => ⟨e, he, rfl, rfl⟩⟩

end

/-! ### The tables of all banks -/

/-- Every bank's table takes a step. -/
def TableSteps (s t : State) : Prop := ∀ b, (s.bank b).TableStep (t.bank b)

theorem TableSteps.refl (s : State) : TableSteps s s := fun _ => .refl _

theorem TableSteps.trans {s t u : State} (h : TableSteps s t) (h' : TableSteps t u) : TableSteps s u := fun b => (h b).trans (h' b)

theorem TableSteps.setBank {s : State} {b : Bank} {x : BankState} (h : (s.bank b).TableStep x) : TableSteps s (s.setBank b x) := by
  intro c
  rw [State.bank_setBank]
  split
  · next hc => rw [hc]; exact h
  · exact .refl _

theorem Calm.tableSteps {s t : State} (h : Calm s t) : TableSteps s t := fun b => .of_eq (h.records b) (h.spares b)

/-- Calm moves leave every table. -/
theorem Moves.tableSteps {quiet : Bool} {s t : State} (h : Moves true quiet s t) : TableSteps s t := by
  induction h with
  | refl => exact .refl s
  | tail _ hm ih => exact ih.trans hm.calm.tableSteps

/-- The active context is no part of the tables. -/
theorem TableSteps.setActive {s t : State} (h : TableSteps s t) (o : Option Active) : TableSteps s { t with active := o } := h

section
variable (s : State)

theorem State.placeClaim_tableSteps (b : Bank) (k : ClaimKind) : TableSteps s (s.placeClaim b k) := .setBank (.of_eq rfl rfl)

theorem State.closeBank_tableSteps (b : Bank) : TableSteps s (s.closeBank b) := .setBank (.of_eq rfl rfl)

theorem State.takeJob_tableSteps : TableSteps s s.takeJob := by
  unfold State.takeJob
  split
  · split
    · exact State.placeClaim_tableSteps { s with migQueue := _, active := _ } _ _
    · exact .refl s
  · exact .refl s

theorem State.queueJob_tableSteps (b : Bank) (r : LRow) : TableSteps s (s.queueJob b r) :=
  State.takeJob_tableSteps { s with migQueue := s.migQueue ++ [(b, r)] }

theorem State.switchRecord_tableSteps (a : Active) : TableSteps s (s.switchRecord a) := by
  unfold State.switchRecord
  split
  · exact .refl s
  · next d e he =>
    have hd := (BankState.recOf_some he).1
    split
    · next hs => exact TableSteps.setBank (BankState.switched_step hd hs)
    · next hs => exact TableSteps.setBank (BankState.returned_step hd hs)
    · exact .refl s

theorem State.takeSwitch_tableSteps (a : Active) : TableSteps s (s.takeSwitch a) := by
  refine TableSteps.trans ?_ (State.takeJob_tableSteps _)
  exact (s.switchRecord_tableSteps a).trans (State.closeBank_tableSteps _ _)

theorem State.abortRecord_tableSteps (a : Active) : TableSteps s (s.abortRecord a) := by
  unfold State.abortRecord
  split
  · exact .refl s
  · next d e he =>
    split
    · next hs => exact TableSteps.setBank (BankState.giveUp_step (BankState.recOf_some he).1 hs)
    · exact .refl s

theorem BankState.withdrawn_step (x : BankState) : x.TableStep x.withdrawn := by
  unfold BankState.withdrawn
  split
  · exact .of_eq rfl rfl
  · exact .refl x

theorem State.abortNow_tableSteps (a : Active) : TableSteps s (s.abortNow a) := by
  refine TableSteps.trans ?_ (State.takeJob_tableSteps _)
  have withdraws : TableSteps s (s.setBank a.bank (s.bank a.bank).withdrawn) := .setBank (BankState.withdrawn_step _)
  exact withdraws.trans (State.abortRecord_tableSteps _ a)

theorem State.enter_tableSteps (a : Active) (p : Phase) (k : ClaimKind) : TableSteps s (s.enter a p k) :=
  State.placeClaim_tableSteps { s with active := some { a with phase := p } } _ _

theorem State.passDecision_tableSteps (a : Active) : TableSteps s (s.passDecision a) := by
  unfold State.passDecision State.beginPass
  split
  · exact s.abortNow_tableSteps a
  · split
    · exact s.enter_tableSteps _ _ _
    · split <;> exact s.enter_tableSteps _ _ _

theorem State.checkFailed_tableSteps (a : Active) : TableSteps s (s.checkFailed a) := by
  unfold State.checkFailed State.beginPass
  split
  · exact s.enter_tableSteps _ _ _
  · split <;> exact s.enter_tableSteps _ _ _

theorem State.afterMainChunk_tableSteps (a : Active) : TableSteps s (s.afterMainChunk a) := by
  unfold State.afterMainChunk
  dsimp only
  split
  · exact s.abortNow_tableSteps _
  · split
    · exact s.enter_tableSteps _ _ _
    · exact s.passDecision_tableSteps _

theorem State.afterRecopyChunk_tableSteps (a : Active) : TableSteps s (s.afterRecopyChunk a) := by
  unfold State.afterRecopyChunk
  split
  · exact s.abortNow_tableSteps _
  · split
    · exact s.enter_tableSteps _ _ _
    · exact s.passDecision_tableSteps _

theorem State.setPoisoned_tableSteps (b : Bank) (r : LRow) (n : Nat) : TableSteps s (s.setBank b ((s.bank b).poisoned r n)) :=
  .setBank (BankState.poisoned_step r n _)

theorem State.copyChunk_tableSteps (k : Chunk) : TableSteps s (s.copyChunk k) := by
  unfold State.copyChunk
  split
  · exact .refl s
  · dsimp only
    refine TableSteps.setActive ?_ _
    refine TableSteps.trans ?_ (State.setPoisoned_tableSteps _ _ _ _)
    refine Moves.tableSteps (quiet := true) (Moves.trans ?_ (writeBursts_moves ..))
    refine Moves.trans ?_ (.other _ rfl)
    exact ((s.port_moves _).trans (State.track_moves ..)).trans (State.track_moves ..)

theorem State.copyFlagged_tableSteps (ks : List Chunk) : TableSteps s (s.copyFlagged ks) := by
  unfold State.copyFlagged
  induction ks generalizing s with
  | nil => exact .refl s
  | cons k ks ih =>
    have cleared := (TableSteps.refl s).setActive (s.active.map fun a : Active => a.setFlag k false)
    exact (cleared.trans (State.copyChunk_tableSteps _ k)).trans (ih _)

theorem State.switchJob_tableSteps (a : Active) : TableSteps s (s.switchJob a) := by
  unfold State.switchJob
  split
  · exact s.takeSwitch_tableSteps a
  · exact (State.closeBank_tableSteps _ _).trans (State.checkFailed_tableSteps _ _)

theorem State.grantMigration_tableSteps (b : Bank) (k : ClaimKind) : TableSteps s (s.grantMigration b k) := by
  have granted {x : BankState} (hr : x.records = (s.bank b).records) (hs : x.spares = (s.bank b).spares) :
      TableSteps s (s.setBank b x) := .setBank (.of_eq hr hs)
  unfold State.grantMigration
  dsimp only
  split
  · exact granted rfl rfl
  · exact granted rfl rfl
  · split
    · split
      · refine TableSteps.trans ?_ (State.switchJob_tableSteps _ _)
        exact granted rfl rfl
      · exact granted rfl rfl
    · exact granted rfl rfl

/-- The spare that allocation takes is FREE. -/
theorem BankState.freeSpare_some {x : BankState} {d : Spare} (h : x.freeSpare = some d) : x.spares.get d = .free := by
  simpa using List.find?_some h

theorem State.steerClaim_tableSteps (b : Bank) (r : LRow) (o : Origin) : TableSteps s (s.steerClaim b r o).1 := by
  unfold State.steerClaim
  split
  · next hn =>
    split
    · exact .refl s
    · next d hd =>
      split
      · exact .refl s
      · refine TableSteps.trans (.setBank ?_) (State.queueJob_tableSteps _ _ _)
        exact BankState.firstSteer_step o (BankState.recOf_eq_none.mp hn) (BankState.freeSpare_some hd)
  · next f e he =>
    split
    · next hs =>
      split
      · exact .refl s
      · next d hd =>
        split
        · exact .refl s
        · refine TableSteps.trans (.setBank ?_) (State.queueJob_tableSteps _ _ _)
          exact BankState.reSteer_step o _ (BankState.recOf_some he).1 hs (BankState.freeSpare_some hd)
    all_goals exact .refl s

theorem State.cancelMove_tableSteps {b : Bank} {r : LRow} {d : Spare} {e : Rec} {old : Option (Spare × Bool)}
    (he : (s.bank b).records.get d = some e) (hs : e.state = .migrating old) : TableSteps s (s.cancelMove b r d e old).1 :=
  TableSteps.setBank (s := { s with migQueue := s.migQueue.erase (b, r) }) (BankState.giveUp_step he hs)

theorem State.serveRelease_tableSteps (b : Bank) (r : LRow) : TableSteps s (s.serveRelease b r).1 := by
  unfold State.serveRelease
  split
  · exact .refl s
  · next d e he =>
    have hd := (BankState.recOf_some he).1
    split
    · next old hs =>
      split
      · split
        · unfold State.releaseActive
          dsimp only
          split
          · exact .refl s
          · split
            · exact s.abortNow_tableSteps _
            · exact .refl s
        · exact s.cancelMove_tableSteps hd hs
      · exact s.cancelMove_tableSteps hd hs
    · next hs =>
      unfold State.startReturn
      split
      · exact .refl s
      · refine TableSteps.trans (.setBank ⟨?_, ?_⟩) (State.queueJob_tableSteps _ _ _)
        · exact BankState.restate_keepsTable hd (by rw [hs]; rfl) rfl
        · exact BankState.setRec_noNewSeal (by rintro _ ⟨⟩; rfl)
    all_goals exact .refl s

end

/-! ### The fuse store under the engine -/

/-- The fuse store and the part state stay. -/
structure FusesFixed (s t : State) : Prop where
  programmer : t.programmer = s.programmer
  image : t.image = s.image
  nextFree : t.nextFree = s.nextFree
  part : t.part = s.part
  loadPos : t.loadPos = s.loadPos

theorem FusesFixed.of_eq {s t : State} (h : t = { s with
    banks := t.banks, migQueue := t.migQueue, active := t.active, buffer := t.buffer, notices := t.notices, alert := t.alert
    stack := t.stack, stackPort := t.stackPort }) : FusesFixed s t := by
  rw [h]; exact ⟨rfl, rfl, rfl, rfl, rfl⟩

theorem Calm.fusesFixed {s t : State} (h : Calm s t) : FusesFixed s t := ⟨h.programmer, h.image, h.nextFree, h.part, h.loadPos⟩

/-! ### The steering table and the spare pool -/

/-- A void seal being programmed is of a BAD spare (R18). -/
theorem State.tableOk_iff (s : State) : s.tableOk ↔ (∀ b, (s.bank b).tableOk)
    ∧ ∀ n b d, s.programmer = some { slot := n, entry := .void b d } → ((s.bank b).spares.get d).isBad = true := by
  refine and_congr Iff.rfl ?_
  rcases s.programmer with _ | ⟨n, _ | _⟩ <;> simp

/-- The tables of a state whose banks' tables took steps. -/
theorem State.tableOk_of_keeps {s t : State} (hb : ∀ b, (s.bank b).KeepsTable (t.bank b))
    (hp : t.programmer = s.programmer ∨ t.programmer = none) (h : s.tableOk) : t.tableOk := by
  rw [State.tableOk_iff] at h ⊢
  obtain ⟨ht, hv⟩ := h
  refine ⟨fun b => (hb b (ht b)).1, fun n b d hpr => ?_⟩
  rcases hp with hp | hp
  · exact (hb b (ht b)).2 d (hv n b d (hp ▸ hpr))
  · rw [hp] at hpr; cases hpr

theorem State.setBank_keepsTable {s : State} {b : Bank} {x : BankState} (h : (s.bank b).KeepsTable x) (c : Bank) :
    (s.bank c).KeepsTable ((s.setBank b x).bank c) := by
  rw [State.bank_setBank]
  split
  · next hc => rw [hc]; exact h
  · exact .of_eq rfl rfl

/-! ### The seals -/

/-- What the seal of a record claims (R15, R17). -/
theorem State.sealOf_iff {s : State} {b : Bank} {d : Spare} {e : Rec} : s.sealOf b d e = true ↔
    (∀ n, e.state = .fused n → s.image.get n = .entry (.row b e.row d))
      ∧ ∀ n, e.state = .sealing n → s.programmer = some { slot := n, entry := .row b e.row d } := by
  unfold State.sealOf
  cases e.state <;> simp

/-- Every record's seal. -/
def State.recordSeals (s : State) : Prop := ∀ b d e, (s.bank b).records.get d = some e → s.sealOf b d e = true

/-- The slot in programming shows its entry and lies below the pointer (R142). -/
def State.programSeal (s : State) : Prop :=
  ∀ p, s.programmer = some p → s.image.get p.slot = .inProgramming p.entry ∧ p.slot.val < s.nextFree

theorem State.sealsOk_iff (s : State) : s.sealsOk ↔ s.recordSeals ∧ s.programSeal
    ∧ (s.part = .running → ∀ n : FuseNo, s.nextFree ≤ n.val → s.image.get n = .blank)
    ∧ (s.part = .loading → s.programmer = none ∧ (∀ n : FuseNo, s.loadPos ≤ n.val → s.image.get n = .blank)
        ∧ (s.loadPos = 64 → ∀ n : FuseNo, s.nextFree ≤ n.val → s.image.get n = .blank)) := by
  unfold State.sealsOk State.recordSeals State.programSeal
  simp only [Option.all_eq_true, Bool.and_eq_true, decide_eq_true_eq]

/-- The seals stay when no bank has a new one and the fuse store stays. -/
theorem State.sealsOk_of_fixed {s t : State} (hb : ∀ b, (s.bank b).NoNewSeal (t.bank b)) (hf : FusesFixed s t) (h : s.sealsOk) :
    t.sealsOk := by
  obtain ⟨hprog, himg, hnext, hpart, hpos⟩ := hf
  rw [State.sealsOk_iff] at h ⊢
  obtain ⟨hrec, h⟩ := h
  refine ⟨fun b d e he => ?_, by unfold State.programSeal at *; rwa [hprog, himg, hnext, hpart, hpos]⟩
  rw [State.sealOf_iff, himg, hprog]
  by_cases hs : e.state.sealSlot = none
  · constructor <;> intro n hn <;> rw [hn] at hs <;> cases hs
  · obtain ⟨e', he', hr, hst⟩ := hb b d e he hs
    have := State.sealOf_iff.mp (hrec b d e' he')
    rwa [hr, hst] at this

/-- A SEALED record names no slot but one whose image is an entry. -/
theorem State.image_of_fused {s : State} (h : s.recordSeals) {b : Bank} {d : Spare} {e : Rec} {n : FuseNo}
    (he : (s.bank b).records.get d = some e) (hn : e.state = .fused n) : s.image.get n = .entry (.row b e.row d) :=
  (State.sealOf_iff.mp (h b d e he)).1 n hn

/-- A SEALING record is the one in programming. -/
theorem State.programmer_of_sealing {s : State} (h : s.recordSeals) {b : Bank} {d : Spare} {e : Rec} {n : FuseNo}
    (he : (s.bank b).records.get d = some e) (hn : e.state = .sealing n) :
    s.programmer = some { slot := n, entry := .row b e.row d } :=
  (State.sealOf_iff.mp (h b d e he)).2 n hn

end Sys2Proof.Machine
end

section
/-! The fuse store's commands: sealing, the void seal, the end of a programming and the start-up load (O58). -/
namespace Sys2Proof.Machine

/-! ### The pointer after the load -/

/-- Running up a list of slots in ascending order, the pointer stays at or below `m` exactly when no slot at or above `m` is used. -/
theorem foldl_nextFree_le_iff (im : Vector Image 64) (l : List FuseNo) (hl : l.Pairwise (· < ·)) (m : Nat) :
    l.foldl (fun acc i => if im.get i = .blank then acc else i.val + 1) 0 ≤ m ↔ ∀ i ∈ l, m ≤ i.val → im.get i = .blank := by
  induction l using List.reverseRecOn with
  | nil => simp
  | append_singleton l i ih =>
    rw [List.pairwise_append] at hl
    obtain ⟨hl, -, hi⟩ := hl
    simp only [List.foldl_append, List.foldl_cons, List.foldl_nil, List.mem_append, List.mem_singleton]
    split
    · next hb =>
      rw [ih hl]
      constructor
      · rintro h j (hj | rfl) hm
        · exact h j hj hm
        · exact hb
      · exact fun h j hj => h j (.inl hj)
    · next hb =>
      constructor
      · rintro h j (hj | rfl) hm
        · have hlt := hi j hj i (List.mem_singleton_self i)
          rw [Fin.lt_def] at hlt
          omega
        · omega
      · intro h
        by_contra hm
        exact hb (h i (.inr rfl) (by omega))

/-- The pointer is the least number at and above which every slot is BLANK (R148). -/
theorem nextFreeOf_le_iff (im : Vector Image 64) (m : Nat) : nextFreeOf im ≤ m ↔ ∀ i : FuseNo, m ≤ i.val → im.get i = .blank := by
  unfold nextFreeOf
  rw [foldl_nextFree_le_iff im _ (List.pairwise_lt_finRange 64)]
  simp

/-! ### The seals after a change of the fuse store -/

/-- The seals of the records stay when no entry of the image is lost, each SEALED record is new with its entry or stood before, and each
SEALING record is the one in programming. -/
theorem State.recordSeals_of {s t : State} (h : s.recordSeals)
    (himg : ∀ n en, s.image.get n = .entry en → t.image.get n = .entry en)
    (hfused : ∀ b d e n, (t.bank b).records.get d = some e → e.state = .fused n →
      t.image.get n = .entry (.row b e.row d) ∨ ∃ e', (s.bank b).records.get d = some e' ∧ e'.row = e.row ∧ e'.state = .fused n)
    (hsealing : ∀ b d e n, (t.bank b).records.get d = some e → e.state = .sealing n →
      t.programmer = some { slot := n, entry := .row b e.row d }) : t.recordSeals := by
  intro b d e he
  rw [State.sealOf_iff]
  refine ⟨fun n hn => ?_, fun n hn => hsealing b d e n he hn⟩
  rcases hfused b d e n he hn with hnew | ⟨e', he', hr, hst⟩
  · exact hnew
  · exact himg n _ (hr ▸ State.image_of_fused h he' hst)

/-- What a step of the steering table or the fuse store keeps. -/
def KeepsSteering (s t : State) : Prop := (s.tableOk → t.tableOk) ∧ (s.steeringOk → t.steeringOk)

/-- What leaves the fuse store and adds no seal keeps both. -/
theorem KeepsSteering.of_steps {s t : State} (h : TableSteps s t) (hf : FusesFixed s t) : KeepsSteering s t := by
  have table : s.tableOk → t.tableOk := State.tableOk_of_keeps (fun b => (h b).1) (.inl hf.programmer)
  exact ⟨table, fun ⟨ht, hs⟩ => ⟨table ht, State.sealsOk_of_fixed (fun b => (h b).2) hf hs⟩⟩

/-! ### Programming -/

/-- The programmer takes a claim exactly when it is free and the pointer is below 64. -/
theorem State.programmerRefuses_eq_none {s : State} : s.programmerRefuses = none ↔ s.programmer = none ∧ s.nextFree < 64 := by
  unfold State.programmerRefuses
  cases s.programmer <;> simp

/-- An image with one BLANK slot set keeps every entry. -/
theorem image_set_of_blank {im : Vector Image 64} {n m : FuseNo} {v : Image} {en : FuseEntry} (hb : im.get n = .blank)
    (hm : im.get m = .entry en) : (im.set n.val v n.isLt).get m = .entry en := by
  rw [vget_set]
  split
  · next h => rw [h, hb] at hm; cases hm
  · exact hm

/-- The slot of the pointer taken by an entry, with a bank whose only new seal is a SEALING record of that entry (R15, R18, R142). -/
theorem State.startProgramming_sealsOk {s : State} (h : s.sealsOk) (hrun : s.part = .running) (hp : s.programmer = none) {n : FuseNo}
    (hn : s.nextFree = n.val) {b : Bank} {x : BankState} {en : FuseEntry}
    (hx : ∀ d e, x.records.get d = some e → (s.bank b).records.get d = some e ∨ (e.state = .sealing n ∧ en = .row b e.row d)) :
    ((s.setBank b x).startProgramming n en).sealsOk := by
  rw [State.sealsOk_iff] at h ⊢
  obtain ⟨hrec, -, hblank, -⟩ := h
  have free : s.image.get n = .blank := hblank hrun n (by omega)
  have stood {c : Bank} {d : Spare} {e : Rec} (he : ((s.setBank b x).bank c).records.get d = some e) :
      (s.bank c).records.get d = some e ∨ (e.state = .sealing n ∧ en = .row c e.row d) := by
    rw [State.bank_setBank] at he
    split at he
    · next hc => subst hc; exact hx d e he
    · exact .inl he
  refine ⟨State.recordSeals_of hrec (fun m en => image_set_of_blank free) (fun c d e m he hm => .inr ?_) (fun c d e m he hm => ?_),
    ?_, fun _ m hm => ?_, fun hl => ?_⟩
  · rcases stood he with he' | ⟨hs, -⟩
    · exact ⟨e, he', rfl, hm⟩
    · rw [hm] at hs; cases hs
  · rcases stood he with he' | ⟨hs, hen⟩
    · rw [State.programmer_of_sealing hrec he' hm] at hp; cases hp
    · rw [hm] at hs; cases hs; rw [← hen]; rfl
  · rintro p ⟨⟩
    exact ⟨(vget_set ..).trans (if_pos rfl), Nat.lt_succ_self _⟩
  · have hm : n.val + 1 ≤ m.val := hm
    refine ((vget_set ..).trans (if_neg ?_)).trans (hblank hrun m (by omega))
    rintro rfl
    omega
  · exact absurd (hrun.symm.trans hl) nofun

/-- The tables after the slot of the pointer is taken. -/
theorem State.startProgramming_tableOk {s : State} (h : s.tableOk) (n : FuseNo) {en : FuseEntry}
    (hv : ∀ b d, en = .void b d → ((s.bank b).spares.get d).isBad = true) : (s.startProgramming n en).tableOk := by
  rw [State.tableOk_iff] at h ⊢
  exact ⟨h.1, by rintro m b d ⟨⟩; exact hv b d rfl⟩

/-- SEAL keeps the table and the seals. -/
theorem State.serveSeal_keeps {s : State} (b : Bank) (r : LRow) (hrun : s.part = .running) : KeepsSteering s (s.serveSeal b r).1 := by
  have same : KeepsSteering s s := ⟨id, id⟩
  unfold State.serveSeal
  split
  · exact same
  · next d e he =>
    obtain ⟨hd, hr⟩ := BankState.recOf_some he
    split
    all_goals try exact same
    next hst =>
    split
    · exact same
    · next n hno hn =>
      obtain ⟨hp, -⟩ := State.programmerRefuses_eq_none.mp hno
      have restated : (s.bank b).KeepsTable ((s.bank b).restate d e (.sealing n)) :=
        BankState.restate_keepsTable hd (by rw [hst]; rfl) rfl
      have table (ht : s.tableOk) : ((s.setBank b ((s.bank b).restate d e (.sealing n))).startProgramming n (.row b r d)).tableOk :=
        State.startProgramming_tableOk (State.tableOk_of_keeps (State.setBank_keepsTable restated) (.inl rfl) ht) n nofun
      refine ⟨table, fun ⟨ht, hs⟩ => ⟨table ht, State.startProgramming_sealsOk hs hrun hp (toFin?_eq_some.mp hn).symm fun d' e' he' => ?_⟩⟩
      rw [BankState.restate, BankState.setRec_records_get] at he'
      split at he'
      · next hdd => cases he'; exact .inr ⟨rfl, by rw [hdd, hr]⟩
      · exact .inl he'
    · exact same

/-- VOID keeps the table and the seals. -/
theorem State.serveVoid_keeps {s : State} (b : Bank) (d : Spare) (w : Bool) (hrun : s.part = .running) :
    KeepsSteering s (s.serveVoid b d w).1 := by
  have same : KeepsSteering s s := ⟨id, id⟩
  have marks (hd : (s.bank b).spares.get d ≠ .held) : (s.bank b).TableStep ((s.bank b).setSpare d (.bad false)) :=
    BankState.setBad_step false fun _ => hd
  have starts (hd : (s.bank b).spares.get d ≠ .held) {n : FuseNo} (hno : s.programmerRefuses = none) (hn : toFin? 64 s.nextFree = some n) :
      KeepsSteering s ((s.setBank b ((s.bank b).setSpare d (.bad false))).startProgramming n (.void b d)) := by
    obtain ⟨hp, -⟩ := State.programmerRefuses_eq_none.mp hno
    have table (ht : s.tableOk) : ((s.setBank b ((s.bank b).setSpare d (.bad false))).startProgramming n (.void b d)).tableOk := by
      refine State.startProgramming_tableOk (State.tableOk_of_keeps (State.setBank_keepsTable (marks hd).1) (.inl rfl) ht) n ?_
      rintro _ _ ⟨⟩
      rw [State.bank_setBank_self, BankState.setSpare_spares_get, if_pos rfl]
      rfl
    exact ⟨table, fun ⟨ht, hs⟩ => ⟨table ht, State.startProgramming_sealsOk hs hrun hp (toFin?_eq_some.mp hn).symm fun _ _ he => .inl he⟩⟩
  unfold State.serveVoid
  dsimp only
  split
  case h_1 | h_3 | h_4 => exact same
  case h_2 hd => exact KeepsSteering.of_steps (TableSteps.setBank (marks (by simp [hd]))) ⟨rfl, rfl, rfl, rfl, rfl⟩
  case h_5 hd | h_6 hd =>
    split
    · exact same
    · next hno hn => exact starts (by simp [hd]) hno hn
    · exact same

/-! ### The end of a programming -/

/-- What a verify result does to the banks: the SEALING record of the row of the entry SEALED or STEERED (R16), or a proven void seal put
into its spare (R19), or nothing. -/
inductive SealResult (s : State) (p : Programming) (ok : Bool) : (Bank → BankState) → Prop
  | row {b : Bank} {r : LRow} {d d' : Spare} {e : Rec} {n : FuseNo} (hen : p.entry = .row b r d') (he : (s.bank b).recOf r = some (d, e))
      (hst : e.state = .sealing n) :
      SealResult s p ok (s.setBank b ((s.bank b).restate d e (if ok then .fused p.slot else .steered))).bank
  | void {b : Bank} {d : Spare} (hen : p.entry = .void b d) : SealResult s p ok (s.setBank b ((s.bank b).setSpare d (.bad true))).bank
  | stays (h : ∀ b r d d' e n, p.entry = .row b r d' → (s.bank b).recOf r = some (d, e) → e.state ≠ .sealing n) : SealResult s p ok s.bank

theorem State.sealResult_bank (s : State) (p : Programming) (ok : Bool) : SealResult s p ok (s.sealResult p ok).bank := by
  unfold State.sealResult
  split
  · next b r d' hen =>
    have stays (h : ∀ d e n, (s.bank b).recOf r = some (d, e) → e.state ≠ .sealing n) : SealResult s p ok s.bank :=
      .stays fun b' r' d _ e n h' => by rw [hen] at h'; cases h'; exact h d e n
    unfold State.rowSealResult
    cases hr : (s.bank b).recOf r with
    | none => exact stays (by rw [hr]; nofun)
    | some y =>
      obtain ⟨d, e⟩ := y
      dsimp only
      cases hst : e.state with
      | sealing n => exact .row hen hr hst
      | _ => exact stays (by rw [hr]; rintro _ _ n ⟨⟩; rw [hst]; nofun)
  · next b d hen =>
    unfold State.voidSealResult
    cases ok
    · exact .stays fun b' r' d _ e n h' => by rw [hen] at h'; cases h'
    · exact .void hen

/-- A verify result keeps the tables. -/
theorem State.sealResult_tableOk {s : State} (h : s.tableOk) (p : Programming) (ok : Bool)
    (hv : ∀ b d, p.entry = .void b d → ((s.bank b).spares.get d).isBad = true) : (s.sealResult p ok).tableOk := by
  refine State.tableOk_of_keeps (s := s) (fun c => ?_) (.inl (by rw [State.sealResult_frame])) h
  have := s.sealResult_bank p ok
  generalize (s.sealResult p ok).bank = f at this ⊢
  cases this with
  | @row b r d d' e n hen he hst =>
    exact State.setBank_keepsTable (BankState.restate_keepsTable (BankState.recOf_some he).1 (by rw [hst]; rfl) (by split <;> rfl)) c
  | @void b d hen =>
    refine State.setBank_keepsTable (BankState.setBad_step true fun _ hd => ?_).1 c
    have := hv b d hen
    rw [hd] at this
    cases this
  | stays => exact .of_eq rfl rfl

/-- The records after a verify result: those that stood before, but for the SEALING record of the row in programming, SEALED or STEERED. -/
theorem State.sealResult_record {s : State} {p : Programming} {ok : Bool} {b : Bank} {d : Spare} {e : Rec}
    (he : ((s.sealResult p ok).bank b).records.get d = some e) :
    ((s.bank b).records.get d = some e ∧ ∀ r d' n, p.entry = .row b r d' → e.state = .sealing n → (s.bank b).recOf r ≠ some (d, e))
      ∨ ∃ e' n, (s.bank b).records.get d = some e' ∧ e'.state = .sealing n
        ∧ e = { e' with state := if ok then .fused p.slot else .steered } := by
  have := s.sealResult_bank p ok
  generalize (s.sealResult p ok).bank = f at this he
  cases this with
  | @row b' r d1 d' e1 n hen hrec hst =>
    rw [State.bank_setBank] at he
    split at he
    · next hb =>
      subst hb
      rw [BankState.restate, BankState.setRec_records_get] at he
      split at he
      · next hd =>
        cases he
        exact .inr ⟨e1, n, hd ▸ (BankState.recOf_some hrec).1, hst, rfl⟩
      · next hd =>
        refine .inl ⟨he, fun r' _ _ h _ h' => hd ?_⟩
        rw [hen] at h
        cases h
        rw [hrec] at h'
        cases h'
        rfl
    · next hb =>
      refine .inl ⟨he, fun r' _ _ h => ?_⟩
      rw [hen] at h
      cases h
      exact absurd rfl hb
  | @void b' d' hen =>
    refine .inl ⟨?_, fun r' _ _ h => by rw [hen] at h; cases h⟩
    rw [State.bank_setBank] at he
    split at he
    · next hb => rw [hb]; exact he
    · exact he
  | stays h => exact .inl ⟨he, fun r' d' n h1 h2 h3 => h b r' d d' e n h1 h3 h2⟩

/-- The end of a programming keeps the table and the seals. -/
theorem State.endProgramming_keeps {s : State} {p : Programming} (f : FuseBytes) (hp : s.programmer = some p) :
    KeepsSteering s (s.endProgramming p f) := by
  have table (h : s.tableOk) : (s.endProgramming p f).tableOk := by
    obtain ⟨ht, hv⟩ := s.tableOk_iff.mp h
    unfold State.endProgramming
    refine State.sealResult_tableOk ?_ p _ fun b d hen => ?_
    · exact State.tableOk_of_keeps (s := s) (fun _ => .of_eq rfl rfl) (.inr rfl) h
    show ((s.bank b).spares.get d).isBad = true
    exact hv p.slot b d (by rw [hp, ← hen])
  refine ⟨table, fun ⟨ht, hs⟩ => ⟨table ht, ?_⟩⟩
  rw [State.sealsOk_iff] at hs ⊢
  obtain ⟨hrec, hprog, hblank, hload⟩ := hs
  obtain ⟨himg, hlt⟩ := hprog p hp
  have image : (s.endProgramming p f).image
      = s.image.set p.slot.val (if decide (classify f = .valid p.entry) then .entry p.entry else .spoiled) p.slot.isLt := by
    unfold State.endProgramming; dsimp only; rw [State.sealResult_frame]
  have idle : (s.endProgramming p f).programmer = none := by
    unfold State.endProgramming; dsimp only; rw [State.sealResult_frame]
  have others {n : FuseNo} (hn : n ≠ p.slot) : (s.endProgramming p f).image.get n = s.image.get n := by
    rw [image, vget_set, if_neg hn]
  refine ⟨State.recordSeals_of hrec (fun n en hn => ?_) (fun b d e n he hn => ?_) (fun b d e n he hn => ?_), ?_, ?_, ?_⟩
  · rw [others, hn]
    rintro rfl
    rw [himg] at hn
    cases hn
  · rcases State.sealResult_record he with ⟨he', -⟩ | ⟨e', m, he', hst, rfl⟩
    · exact .inr ⟨e, he', rfl, hn⟩
    · have hen' := State.programmer_of_sealing hrec he' hst
      rw [hp] at hen'
      cases hen'
      dsimp only at hn
      split at hn
      · next hok => cases hn; rw [image, vget_set, if_pos rfl, if_pos hok]; exact .inl rfl
      · cases hn
  · rcases State.sealResult_record he with ⟨he', hno⟩ | ⟨e', m, -, -, rfl⟩
    · have hen := State.programmer_of_sealing hrec he' hn
      rw [hp] at hen
      cases hen
      exact absurd (BankState.recOf_eq (ht.1 b) he' rfl) (hno _ _ n rfl hn)
    · dsimp only at hn
      split at hn <;> cases hn
  · intro q hq
    rw [idle] at hq
    cases hq
  · intro hrun n hn
    rw [State.endProgramming_frame] at hrun hn
    have hn : s.nextFree ≤ n.val := hn
    rw [others (by rintro rfl; omega)]
    exact hblank hrun n hn
  · intro hl
    rw [State.endProgramming_frame] at hl
    rw [(hload hl).1] at hp
    cases hp

/-! ### The start-up load -/

/-- The load's end keeps the table and the seals (R149). -/
theorem State.tryLoadEnd_keeps {s : State} (hl : s.part = .loading) : KeepsSteering s s.tryLoadEnd := by
  unfold State.tryLoadEnd
  split
  · next hc =>
    have table (h : s.tableOk) : State.tableOk (State.raise .loadDone none none (.load s.summary)
        { s with part := .running, link := .up, outbound := s.outbound ++ [OutMsg.ready], timer := some s.settings.tickInterval }) := h
    refine ⟨table, fun ⟨ht, hs⟩ => ⟨table ht, ?_⟩⟩
    rw [State.sealsOk_iff] at hs ⊢
    obtain ⟨hrec, hprog, -, hload⟩ := hs
    exact ⟨hrec, hprog, fun _ => (hload hl).2.2 hc.1, nofun⟩
  · exact ⟨id, id⟩

/-- What a load claim does to the banks: a record SEALED in its slot n from a ROW entry, a void seal, or nothing (R24, R25). -/
theorem State.loadClaim_bank (s : State) (n : FuseNo) (c : SlotClass) (b : Bank) :
    (s.bank b).KeepsTable ((s.loadClaim n c).bank b) ∧ ∀ d e, ((s.loadClaim n c).bank b).records.get d = some e →
      (s.bank b).records.get d = some e ∨ (e.state = .fused n ∧ c = .valid (.row b e.row d)) := by
  have set {b' : Bank} {x : BankState} (hx : (s.bank b').KeepsTable x)
      (hr : ∀ d e, x.records.get d = some e →
        (s.bank b').records.get d = some e ∨ (e.state = .fused n ∧ c = .valid (.row b' e.row d))) :
      (s.bank b).KeepsTable ((s.setBank b' x).bank b) ∧ ∀ d e, ((s.setBank b' x).bank b).records.get d = some e →
        (s.bank b).records.get d = some e ∨ (e.state = .fused n ∧ c = .valid (.row b e.row d)) := by
    rw [State.bank_setBank]
    split
    · next hb => rw [hb]; exact ⟨hx, hr⟩
    · exact ⟨.of_eq rfl rfl, fun _ _ he => .inl he⟩
  unfold State.loadClaim
  split
  · exact ⟨.of_eq rfl rfl, fun _ _ he => .inl he⟩
  · exact ⟨.of_eq rfl rfl, fun _ _ he => .inl he⟩
  · next b' r d =>
    refine set (BankState.loadRow_keepsTable n r d _) fun d' e he => ?_
    unfold BankState.loadRow at he
    split at he
    · exact .inl he
    · rw [BankState.setSpare_records, BankState.setRec_records_get] at he
      split at he
      · next hd => cases he; rw [hd]; exact .inr ⟨rfl, rfl⟩
      · exact .inl he
  · next b' d =>
    refine set (BankState.loadVoid_keepsTable d _) fun d' e he => .inl ?_
    rwa [BankState.loadVoid_frame] at he

/-- A slot read by the load keeps the table and the seals (R147, R148). -/
theorem State.loadSlot_keeps {s : State} {n : FuseNo} (f : FuseBytes) (hl : s.part = .loading) (hn : s.loadPos = n.val) :
    KeepsSteering s (s.loadSlot n f) := by
  unfold State.loadSlot
  dsimp only
  generalize hread : State.completeSummary _ = u
  have himg : u.image = s.image.set n.val (classify f).toImage n.isLt := by
    rw [← hread, State.completeSummary_frame, State.loadClaim_frame]
  have hidle : u.programmer = s.programmer := by rw [← hread, State.completeSummary_frame, State.loadClaim_frame]
  have hpart : u.part = s.part := by rw [← hread, State.completeSummary_frame, State.loadClaim_frame]
  have hpos : u.loadPos = n.val + 1 := by rw [← hread, State.completeSummary_frame]
  have hbank (b : Bank) := State.loadClaim_bank { s with image := s.image.set n.val (classify f).toImage n.isLt } n (classify f) b
  have hbanks : u.bank = (State.loadClaim n (classify f) { s with image := s.image.set n.val (classify f).toImage n.isLt }).bank := by
    funext b; rw [← hread, State.completeSummary_frame]; rfl
  have hend : u.loadPos = 64 → u.nextFree = nextFreeOf u.image := by
    rw [← hread]
    unfold State.completeSummary
    split
    · exact fun _ => rfl
    · next h => exact fun h' => absurd h' h
  have table (h : s.tableOk) : u.tableOk :=
    State.tableOk_of_keeps (fun b => by rw [hbanks]; exact (hbank b).1) (.inl hidle) h
  have kept : KeepsSteering s u := by
    refine ⟨table, fun ⟨ht, hs⟩ => ⟨table ht, ?_⟩⟩
    rw [State.sealsOk_iff] at hs ⊢
    obtain ⟨hrec, -, -, hload⟩ := hs
    obtain ⟨hnone, hblank, -⟩ := hload hl
    have free : s.image.get n = .blank := hblank n (by omega)
    refine ⟨State.recordSeals_of hrec (fun m en hm => himg ▸ image_set_of_blank free hm) (fun b d e m he hm => ?_)
      (fun b d e m he hm => ?_), fun p hp => ?_, fun hrun => ?_, fun _ => ⟨hidle.trans hnone, fun m hm => ?_, fun h64 => ?_⟩⟩
    · rw [hbanks] at he
      rcases (hbank b).2 d e he with he' | ⟨hf, hc⟩
      · exact .inr ⟨e, he', rfl, hm⟩
      · rw [hm] at hf
        cases hf
        rw [himg, vget_set, if_pos rfl, hc]
        exact .inl rfl
    · rw [hbanks] at he
      rcases (hbank b).2 d e he with he' | ⟨hf, -⟩
      · rw [State.programmer_of_sealing hrec he' hm] at hnone; cases hnone
      · rw [hm] at hf; cases hf
    · rw [hidle, hnone] at hp; cases hp
    · rw [hpart, hl] at hrun; cases hrun
    · rw [himg, vget_set, if_neg (by rintro rfl; omega)]
      exact hblank m (by omega)
    · exact (nextFreeOf_le_iff _ _).mp (hend h64).ge
  have ended := State.tryLoadEnd_keeps (hpart.trans hl)
  exact ⟨fun h => ended.1 (kept.1 h), fun h => ended.2 (kept.2 h)⟩

/-! ### Every step -/

/-- RELEASE leaves the fuse store. -/
theorem State.serveRelease_fusesFixed (b : Bank) (r : LRow) (s : State) : FusesFixed s (s.serveRelease b r).1 := by
  have same : FusesFixed s s := .of_eq rfl
  have cancelled (d : Spare) (e : Rec) (old : Option (Spare × Bool)) : FusesFixed s (s.cancelMove b r d e old).1 := .of_eq rfl
  unfold State.serveRelease
  split
  · exact same
  · split
    · split
      · split
        · unfold State.releaseActive
          dsimp only
          split
          · exact same
          · split
            · exact .of_eq (by rw [State.abortNow_frame])
            · exact .of_eq rfl
        · exact cancelled ..
      · exact cancelled ..
    · unfold State.startReturn
      split
      · exact same
      · exact .of_eq (by rw [State.queueJob_frame]; rfl)
    all_goals exact same

theorem Shift.keepsSteering {s t : State} (h : Shift s t) : KeepsSteering s t := by
  cases h with
  | writes b r c => exact .of_steps (.refl s) (.of_eq rfl)
  | grants hs hf hm => exact .of_steps (s.grantMigration_tableSteps _ _) (.of_eq (by rw [State.grantMigration_frame]))
  | endsMainChunk =>
    refine .of_steps (((s.copyChunk_tableSteps _).trans (State.closeBank_tableSteps _ _)).trans (State.afterMainChunk_tableSteps _ _)) ?_
    exact .of_eq (by rw [State.afterMainChunk_frame, State.closeBank_frame, State.copyChunk_frame])
  | endsRecopyChunk =>
    refine .of_steps (((s.copyChunk_tableSteps _).trans (State.closeBank_tableSteps _ _)).trans (State.afterRecopyChunk_tableSteps _ _)) ?_
    exact .of_eq (by rw [State.afterRecopyChunk_frame, State.closeBank_frame, State.copyChunk_frame])
  | endsFinal =>
    refine .of_steps ((s.copyFlagged_tableSteps _).trans (State.takeSwitch_tableSteps _ _)) ?_
    exact .of_eq (by rw [State.takeSwitch_frame, State.copyFlagged_frame])
  | steers b r o => exact .of_steps (s.steerClaim_tableSteps b r o) (.of_eq (by rw [State.steerClaim_frame]))
  | releases b r => exact .of_steps (s.serveRelease_tableSteps b r) (State.serveRelease_fusesFixed b r s)
  | seals b r hp => exact State.serveSeal_keeps b r hp
  | voids b d w hp => exact State.serveVoid_keeps b d w hp
  | programs f h => exact State.endProgramming_keeps f h
  | loads f hp hn => exact State.loadSlot_keeps f hp hn
  | starts hp => exact State.tryLoadEnd_keeps hp

theorem Micro.keepsSteering {s t : State} (h : Micro true false s t) : KeepsSteering s t := .of_steps h.calm.tableSteps h.calm.fusesFixed

/-- Settles O58: the calm moves leave the tables and the fuse store, and each shift keeps both. -/
theorem stepKeepsTheSteeringTable : Obligations.StepKeepsTheSteeringTable := fun _ _ h => by
  have reset := resetSatisfiesTheInvariants
  obtain ⟨-, -, -, -, -, -, -, -, -, ⟨htable, hseals⟩, -⟩ := reset
  constructor
  · exact step_keeps_of_path (fun _ _ hm => hm.keepsSteering.1) (fun _ _ hs => hs.keepsSteering.1) (fun _ _ _ => id) (fun _ _ => id)
      (fun _ _ _ _ _ _ => htable) h
  · refine step_keeps_of_path (fun _ _ hm => hm.keepsSteering.2) (fun _ _ hs => hs.keepsSteering.2) (fun _ _ _ => id) (fun _ _ => id)
      (fun s u p hp _ _ => ⟨htable, ?_⟩) h
    rw [State.sealsOk_iff] at hseals ⊢
    obtain ⟨hrec, hprog, -, -⟩ := hseals
    have blank (n : FuseNo) : (u.fresh p).image.get n = .blank := vget_replicate _ _
    exact ⟨hrec, hprog, fun _ n _ => blank n, fun _ => ⟨rfl, fun n _ => blank n, fun _ n _ => blank n⟩⟩

end Sys2Proof.Machine
end

section
/-! The migration engine's claims and jobs after every step: one claim placed or one bank held while a job is active (O57, its first half). -/
namespace Sys2Proof.Machine

/-! ### What the quiet moves leave -/

/-- Two banks with the same bank unit and refresh state. -/
structure BankState.SameUnit (x y : BankState) : Prop where
  shadow : y.shadow = x.shadow
  lane : y.lane = x.lane
  inProgress : y.inProgress = x.inProgress
  revoked : y.revoked = x.revoked
  forced : y.forced = x.forced
  reported : y.reported = x.reported
  pointer : y.pointer = x.pointer
  debt : y.debt = x.debt
  slot : y.slot = x.slot
  service : y.service = x.service

/-- What the quiet moves leave: the bank units, the held orders, and where their replies and REPORTs stand. -/
structure Quiet (s t : State) : Prop where
  unit : ∀ b, (s.bank b).SameUnit (t.bank b)
  held : t.held = s.held
  reportLane : t.reportLane = s.reportLane
  replies : t.outbound.filterMap OutMsg.replyTag = s.outbound.filterMap OutMsg.replyTag
  link : t.link = s.link
  part : t.part = s.part

section
variable {s t u : State}

theorem BankState.SameUnit.refl (x : BankState) : x.SameUnit x := ⟨rfl, rfl, rfl, rfl, rfl, rfl, rfl, rfl, rfl, rfl⟩

theorem BankState.SameUnit.trans {x y z : BankState} (h : x.SameUnit y) (h' : y.SameUnit z) : x.SameUnit z :=
  ⟨h'.1.trans h.1, h'.2.trans h.2, h'.3.trans h.3, h'.4.trans h.4, h'.5.trans h.5, h'.6.trans h.6, h'.7.trans h.7, h'.8.trans h.8,
    h'.9.trans h.9, h'.10.trans h.10⟩

theorem Quiet.refl (s : State) : Quiet s s := ⟨fun _ => .refl _, rfl, rfl, rfl, rfl, rfl⟩

theorem Quiet.trans (h : Quiet s t) (h' : Quiet t u) : Quiet s u :=
  ⟨fun b => (h.unit b).trans (h'.unit b), h'.held.trans h.held, h'.reportLane.trans h.reportLane, h'.replies.trans h.replies,
    h'.link.trans h.link, h'.part.trans h.part⟩

/-- One bank changes, but for its unit. -/
theorem Quiet.setBank {b : Bank} {x : BankState} (h : (s.bank b).SameUnit x) : Quiet s (s.setBank b x) := by
  refine ⟨fun c => ?_, rfl, rfl, rfl, rfl, rfl⟩
  rw [State.bank_setBank]
  split
  · next hc => rw [hc]; exact h
  · exact .refl _

theorem Micro.quiet {calm : Bool} (h : Micro calm true s t) : Quiet s t := by
  cases h with
  | hands m hm hq =>
    refine ⟨fun _ => .refl _, rfl, rfl, ?_, rfl, rfl⟩
    simp [List.filterMap_append, hq rfl]
  | rejects g r h =>
    refine ⟨fun _ => .refl _, rfl, rfl, ?_, rfl, rfl⟩
    simp [List.filterMap_append, OutMsg.replyTag]
  | tracks b x hx ha => exact .setBank (by rw [hx]; exact ⟨rfl, rfl, rfl, rfl, rfl, rfl, rfl, rfl, rfl, rfl⟩)
  | tables b x hc hx hp => exact .setBank (by rw [hx]; exact ⟨rfl, rfl, rfl, rfl, rfl, rfl, rfl, rfl, rfl, rfl⟩)
  | engine t ht hc | other t ht => rw [ht]; exact ⟨fun _ => .refl _, rfl, rfl, rfl, rfl, rfl⟩
  | notes | queues | suspects | sets | writes => exact ⟨fun _ => .refl _, rfl, rfl, rfl, rfl, rfl⟩
  | forgets _ hq | unit _ _ hq | jobs _ _ _ hq | holds _ _ hq | links _ _ hq | starts _ _ _ hq => cases hq

theorem Moves.quiet {calm : Bool} (h : Moves calm true s t) : Quiet s t := by
  induction h with
  | refl => exact .refl s
  | tail _ hm ih => exact ih.trans hm.quiet

/-! ### Claims and held banks -/

/-- Every bank's claim and shadow state stay. -/
def ClaimsFixed (s t : State) : Prop := ∀ b, (t.bank b).migClaim = (s.bank b).migClaim ∧ (t.bank b).shadow = (s.bank b).shadow

theorem ClaimsFixed.refl (s : State) : ClaimsFixed s s := fun _ => ⟨rfl, rfl⟩

theorem ClaimsFixed.trans (h : ClaimsFixed s t) (h' : ClaimsFixed t u) : ClaimsFixed s u :=
  fun b => ⟨(h' b).1.trans (h b).1, (h' b).2.trans (h b).2⟩

theorem ClaimsFixed.setBank {b : Bank} {x : BankState} (hm : x.migClaim = (s.bank b).migClaim) (hs : x.shadow = (s.bank b).shadow) :
    ClaimsFixed s (s.setBank b x) := by
  intro c
  rw [State.bank_setBank]
  split
  · next hc => rw [hc]; exact ⟨hm, hs⟩
  · exact ⟨rfl, rfl⟩

theorem Moves.claimsFixed (h : Moves true true s t) : ClaimsFixed s t := by
  induction h with
  | refl => exact .refl s
  | tail _ hm ih => exact ih.trans fun b => ⟨hm.calm.migClaim b, (hm.quiet.unit b).shadow⟩

/-- The active context is no part of the banks. -/
theorem ClaimsFixed.setActive (h : ClaimsFixed s t) (o : Option Active) : ClaimsFixed s { t with active := o } := h

/-- The engine leaves a bank alone: it has no claim placed there and does not hold it. -/
def State.unclaimed (s : State) (b : Bank) : Prop := (s.bank b).migClaim = none ∧ (s.bank b).inMigration = false

/-- The engine leaves every bank but b alone, and does not hold b. -/
def State.freeAt (s : State) (b : Bank) : Prop := (∀ c, c ≠ b → s.unclaimed c) ∧ (s.bank b).inMigration = false

theorem BankState.inMigration_congr {x y : BankState} (h : y.shadow = x.shadow) : y.inMigration = x.inMigration := by
  unfold BankState.inMigration; rw [h]

theorem ClaimsFixed.unclaimed (h : ClaimsFixed s t) {b : Bank} (hs : s.unclaimed b) : t.unclaimed b :=
  ⟨(h b).1.trans hs.1, (BankState.inMigration_congr (h b).2).trans hs.2⟩

theorem ClaimsFixed.freeAt (h : ClaimsFixed s t) {b : Bank} (hs : s.freeAt b) : t.freeAt b :=
  ⟨fun c hc => h.unclaimed (hs.1 c hc), (BankState.inMigration_congr (h b).2).trans hs.2⟩

/-- An IDLE engine leaves every bank alone. -/
theorem State.engineOk_idle (ha : s.active = none) : s.engineOk ↔ ∀ b, s.unclaimed b := by
  unfold State.engineOk State.unclaimed engineBankOk
  simp [ha]

/-- An engine with a job has its claim at the job's bank or, but for a SWITCH, holds it, and leaves every other bank alone. -/
theorem State.engineOk_busy {a : Active} (ha : s.active = some a) : s.engineOk ↔ (∀ c, c ≠ a.bank → s.unclaimed c)
    ∧ (((s.bank a.bank).migClaim = some a.phase.claim ∧ (s.bank a.bank).inMigration = false)
      ∨ ((s.bank a.bank).migClaim = none ∧ a.phase ≠ .switching ∧ (s.bank a.bank).shadow = .claimed a.phase.claim.job))
    ∧ a.ok (s.bank a.bank) = true := by
  have other (c : Bank) (hc : c ≠ a.bank) : engineBankOk (some a) c (s.bank c) = true ↔ s.unclaimed c := by
    simp [engineBankOk, State.unclaimed, Ne.symm hc]
  have own : engineBankOk (some a) a.bank (s.bank a.bank) = true ↔
      (((s.bank a.bank).migClaim = some a.phase.claim ∧ (s.bank a.bank).inMigration = false)
        ∨ ((s.bank a.bank).migClaim = none ∧ a.phase ≠ .switching ∧ (s.bank a.bank).shadow = .claimed a.phase.claim.job)) := by
    simp [engineBankOk, and_assoc]
  unfold State.engineOk
  rw [ha, Option.all_some]
  constructor
  · exact fun ⟨h, hok⟩ => ⟨fun c hc => (other c hc).mp (h c), own.mp (h a.bank), hok⟩
  · rintro ⟨ho, hw, hok⟩
    refine ⟨fun c => ?_, hok⟩
    by_cases hc : c = a.bank
    · rw [hc]; exact own.mpr hw
    · exact (other c hc).mpr (ho c hc)

/-- The claim that a busy engine has at a bank is its active job's. -/
theorem State.engineOk_claim (h : s.engineOk) {b : Bank} {k : ClaimKind} (hk : (s.bank b).migClaim = some k) :
    ∃ a, s.active = some a ∧ a.bank = b ∧ k = a.phase.claim := by
  cases ha : s.active with
  | none =>
    rw [((s.engineOk_idle ha).mp h b).1] at hk
    cases hk
  | some a =>
    obtain ⟨ho, hw, -⟩ := (State.engineOk_busy ha).mp h
    by_cases hb : b = a.bank
    · subst hb
      rcases hw with ⟨hm, -⟩ | ⟨hm, -⟩
      · rw [hm] at hk; cases hk; exact ⟨a, rfl, rfl, rfl⟩
      · rw [hm] at hk; cases hk
    · rw [(ho b hb).1] at hk; cases hk

/-- While the engine holds the bank of its job no claim is placed. -/
theorem State.engineOk_held (h : s.engineOk) {a : Active} (ha : s.active = some a) {k : ClaimKind}
    (hs : (s.bank a.bank).shadow = .claimed k.job) : (∀ c, c ≠ a.bank → s.unclaimed c) ∧ (s.bank a.bank).migClaim = none
      ∧ a.phase.claim = k ∧ a.ok (s.bank a.bank) = true := by
  obtain ⟨ho, hw, hok⟩ := (State.engineOk_busy ha).mp h
  refine ⟨ho, ?_⟩
  rcases hw with ⟨-, hm⟩ | ⟨hm, -, hk⟩
  · rw [BankState.inMigration, hs] at hm
    cases k <;> simp [ClaimKind.job] at hm
  · rw [hs] at hk
    refine ⟨hm, ?_, hok⟩
    cases k <;> cases hp : a.phase <;> rw [hp] at hk <;> simp [ClaimKind.job, Phase.claim] at hk ⊢

/-! ### The calm moves -/

/-- What the engine sees of a bank is its claim and whether a migration job holds it. -/
theorem engineBankOk_congr {act : Option Active} {b : Bank} {x y : BankState} (hm : y.migClaim = x.migClaim) (hs : x.ShadowCalm y) :
    engineBankOk act b y = engineBankOk act b x := by
  unfold engineBankOk
  rw [hm]
  rcases hs with hs | ⟨hx, hy⟩
  · rw [BankState.inMigration_congr hs, hs]
  · have idle {z : BankState} (hz : z.inMigration = false) (k : ClaimKind) : z.shadow ≠ .claimed k.job := by
      intro h
      rw [BankState.inMigration, h] at hz
      cases k <;> simp [ClaimKind.job] at hz
    rw [hx, hy]
    simp only [idle hx, idle hy]

theorem Active.ok_congr {a : Active} {x y : BankState} (hm : y.migClaim = x.migClaim) : a.ok y = a.ok x := by
  unfold Active.ok; rw [hm]

theorem Calm.keeps_engineOk (h : Calm s t) (hs : s.engineOk) : t.engineOk := by
  obtain ⟨hb, ha⟩ := hs
  refine ⟨fun b => ?_, ?_⟩
  · rw [h.active, engineBankOk_congr (h.migClaim b) (h.shadow b)]
    exact hb b
  · rw [h.active]
    cases hact : s.active with
    | none => rfl
    | some a =>
      rw [hact] at ha
      exact (Active.ok_congr (h.migClaim a.bank)).trans ha

/-! ### The engine's operations -/

variable (s)

/-- A claim placed leaves what the engine does at every other bank. -/
theorem State.placeClaim_freeAt {b : Bank} (k : ClaimKind) (h : s.freeAt b) :
    (∀ c, c ≠ b → (s.placeClaim b k).unclaimed c) ∧ ((s.placeClaim b k).bank b).migClaim = some k
      ∧ ((s.placeClaim b k).bank b).inMigration = false := by
  unfold State.placeClaim
  refine ⟨fun c hc => ?_, ?_⟩
  · unfold State.unclaimed; rw [State.bank_setBank_of_ne _ _ hc]; exact h.1 c hc
  · rw [State.bank_setBank_self]; exact ⟨rfl, h.2⟩

/-- What the context needs when its phase's claim is placed (R78, R79, R81). -/
def Active.ready (p : Phase) (a : Active) : Prop :=
  match p with
  | .copying => a.cursor < 8
  | .recopying => a.cursor = 8 ∧ a.nextFlagged.isSome = true
  | .switching | .final => a.cursor = 8

theorem Active.ok_of_ready {a : Active} {x : BankState} {k : ClaimKind} (hx : x.migClaim = some k) (h : a.ready a.phase) : a.ok x = true := by
  unfold Active.ready at h
  unfold Active.ok
  cases hp : a.phase <;> rw [hp] at h <;> simp [hx, h]

/-- The engine with its claim placed at the bank of its context. -/
theorem State.placed_engineOk {a : Active} (ha : s.active = some a) (h : s.freeAt a.bank) (hr : a.ready a.phase) :
    (s.placeClaim a.bank a.phase.claim).engineOk := by
  obtain ⟨ho, hk, hm⟩ := s.placeClaim_freeAt a.phase.claim h
  exact (State.engineOk_busy (s := s.placeClaim a.bank a.phase.claim) (a := a) ha).mpr ⟨ho, .inl ⟨hk, hm⟩, Active.ok_of_ready hk hr⟩

/-- A phase entered with a context that is ready for it. -/
theorem State.enter_engineOk {a : Active} {p : Phase} {k : ClaimKind} (hk : k = p.claim) (h : s.freeAt a.bank) (hr : a.ready p) :
    (s.enter a p k).engineOk := by
  subst hk
  exact State.placed_engineOk (a := { a with phase := p }) { s with active := some { a with phase := p } } rfl h hr

theorem State.takeJob_engineOk (h : s.engineOk) : s.takeJob.engineOk := by
  unfold State.takeJob
  split
  · next b r q ha hq =>
    have idle := (s.engineOk_idle ha).mp h
    split
    · next a hj =>
      have hb := (State.jobOf_key hj).1
      have hc : a.phase = .copying ∧ a.cursor = 0 := by
        unfold State.jobOf at hj
        split at hj
        · cases hj
        · obtain ⟨m, -, rfl⟩ := Option.map_eq_some_iff.mp hj
          exact ⟨rfl, rfl⟩
      have placed := State.placed_engineOk (a := a) { s with migQueue := q, active := some a } rfl
        ⟨fun c _ => idle c, (idle a.bank).2⟩ (by rw [hc.1, Active.ready, hc.2]; omega)
      rwa [hc.1, hb] at placed
    · exact (State.engineOk_idle (s := { s with migQueue := q }) ha).mpr idle
  · exact h

theorem State.queueJob_engineOk (b : Bank) (r : LRow) (h : s.engineOk) : (s.queueJob b r).engineOk :=
  State.takeJob_engineOk { s with migQueue := s.migQueue ++ [(b, r)] } h

/-- The engine IDLE with no bank claimed or held takes the next job. -/
theorem State.released_engineOk (h : ∀ b, s.unclaimed b) : ({ s with active := none } : State).takeJob.engineOk :=
  State.takeJob_engineOk { s with active := none } ((State.engineOk_idle (s := { s with active := none }) rfl).mpr h)

/-- A bank's job ended. -/
theorem State.closeBank_freeAt {b : Bank} (h : ∀ c, c ≠ b → s.unclaimed c) : (s.closeBank b).freeAt b := by
  unfold State.closeBank
  refine ⟨fun c hc => ?_, ?_⟩
  · unfold State.unclaimed; rw [State.bank_setBank_of_ne _ _ hc]; exact h c hc
  · rw [State.bank_setBank_self]; rfl

theorem State.closeBank_migClaim (b c : Bank) : ((s.closeBank b).bank c).migClaim = (s.bank c).migClaim := by
  unfold State.closeBank
  rw [State.bank_setBank]
  split
  · next h => rw [h]
  · rfl

theorem State.switchRecord_claimsFixed (a : Active) : ClaimsFixed s (s.switchRecord a) := by
  unfold State.switchRecord
  split
  · exact .refl s
  · split
    · exact ClaimsFixed.setBank (by rw [BankState.switched_frame]) (by rw [BankState.switched_frame])
    · exact ClaimsFixed.setBank (s := s) rfl rfl
    · exact .refl s

theorem State.abortRecord_claimsFixed (a : Active) : ClaimsFixed s (s.abortRecord a) := by
  unfold State.abortRecord
  split
  · exact .refl s
  · split
    · exact ClaimsFixed.setBank (by rw [BankState.giveUp_frame]) (by rw [BankState.giveUp_frame])
    · exact .refl s

theorem State.copyChunk_claimsFixed (k : Chunk) : ClaimsFixed s (s.copyChunk k) := by
  unfold State.copyChunk
  split
  · exact .refl s
  · dsimp only
    refine ClaimsFixed.setActive ?_ _
    refine ClaimsFixed.trans ?_ (.setBank (by rw [BankState.poisoned_frame]) (by rw [BankState.poisoned_frame]))
    refine Moves.claimsFixed (Moves.trans ?_ (writeBursts_moves ..))
    refine Moves.trans ?_ (.other _ rfl)
    exact ((s.port_moves _).trans (State.track_moves ..)).trans (State.track_moves ..)

theorem State.copyFlagged_claimsFixed (ks : List Chunk) : ClaimsFixed s (s.copyFlagged ks) := by
  unfold State.copyFlagged
  induction ks generalizing s with
  | nil => exact .refl s
  | cons k ks ih =>
    have cleared := (ClaimsFixed.refl s).setActive (s.active.map fun a : Active => a.setFlag k false)
    exact (cleared.trans (State.copyChunk_claimsFixed _ k)).trans (ih _)

/-- The switch taken by the job that holds its bank, or by the SWITCH claim just granted (R84). -/
theorem State.takeSwitch_engineOk {a : Active} (h : ∀ c, c ≠ a.bank → s.unclaimed c) (hm : (s.bank a.bank).migClaim = none) :
    (s.takeSwitch a).engineOk := by
  have fixed := s.switchRecord_claimsFixed a
  obtain ⟨ho, hb⟩ := State.closeBank_freeAt (b := a.bank) (s.switchRecord a) fun c hc => fixed.unclaimed (h c hc)
  refine State.released_engineOk _ fun c => ?_
  by_cases hc : c = a.bank
  · subst hc
    exact ⟨by rw [State.closeBank_migClaim, (fixed _).1, hm], hb⟩
  · exact ho c hc

/-- The abort of the job whose bank the engine does not hold (R86). -/
theorem State.abortNow_engineOk {a : Active} (h : s.freeAt a.bank) : (s.abortNow a).engineOk := by
  have fixed := State.abortRecord_claimsFixed (s.setBank a.bank (s.bank a.bank).withdrawn) a
  refine State.released_engineOk _ fun c => fixed.unclaimed ?_
  unfold State.unclaimed
  rw [State.bank_setBank]
  split
  · have hb := h.2
    unfold BankState.withdrawn
    split
    · exact ⟨rfl, hb⟩
    · next hm => exact ⟨by simpa using hm, hb⟩
  · next hc => exact h.1 c hc

/-- A new pass has a chunk to copy when some flag is set. -/
theorem Active.nextFlagged_of_not_maskEmpty {a : Active} (h : a.maskEmpty = false) :
    ({ a with passPos := none } : Active).nextFlagged.isSome = true := by
  have hne : a.flagged ≠ [] := by
    intro hn
    rw [Active.maskEmpty, hn] at h
    cases h
  obtain ⟨k, hk⟩ := List.exists_mem_of_ne_nil _ hne
  rw [Active.nextFlagged, List.find?_isSome]
  refine ⟨k, List.mem_finRange k, ?_⟩
  have := (List.mem_filter.mp hk).2
  simp [this, abovePos]

theorem State.beginPass_engineOk {a : Active} (h : s.freeAt a.bank) (hc : a.cursor = 8) (hm : a.maskEmpty = false) :
    (s.beginPass a).engineOk :=
  State.enter_engineOk (a := { a with passPos := none }) s rfl h ⟨hc, Active.nextFlagged_of_not_maskEmpty hm⟩

theorem State.passDecision_engineOk {a : Active} (h : s.freeAt a.bank) (hc : a.cursor = 8) : (s.passDecision a).engineOk := by
  unfold State.passDecision
  split
  · exact s.abortNow_engineOk h
  · split
    · exact s.enter_engineOk rfl h hc
    · next hm =>
      split
      · exact s.beginPass_engineOk h hc (Bool.eq_false_of_not_eq_true hm)
      · exact s.enter_engineOk rfl h hc

theorem State.checkFailed_engineOk {a : Active} (h : s.freeAt a.bank) (hc : a.cursor = 8) (hm : a.maskEmpty = false) :
    (s.checkFailed a).engineOk := by
  unfold State.checkFailed
  split
  · exact s.enter_engineOk rfl h hc
  · split
    · exact s.beginPass_engineOk h hc hm
    · exact s.enter_engineOk rfl h hc

theorem State.afterMainChunk_engineOk {a : Active} (h : s.freeAt a.bank) (hc : a.cursor < 8) : (s.afterMainChunk a).engineOk := by
  unfold State.afterMainChunk
  dsimp only
  split
  · exact State.abortNow_engineOk (a := { a with cursor := a.cursor + 1 }) s h
  · split
    · next hlt => exact State.enter_engineOk (a := { a with cursor := a.cursor + 1 }) s rfl h hlt
    · next hge => exact State.passDecision_engineOk (a := { a with cursor := a.cursor + 1 }) s h (by simp only at hge ⊢; omega)

theorem State.afterRecopyChunk_engineOk {a : Active} (h : s.freeAt a.bank) (hc : a.cursor = 8) : (s.afterRecopyChunk a).engineOk := by
  unfold State.afterRecopyChunk
  split
  · exact s.abortNow_engineOk h
  · split
    · next hn => exact s.enter_engineOk rfl h ⟨hc, hn⟩
    · exact State.passDecision_engineOk (a := { a with passesDone := a.passesDone + 1 }) s h hc

/-- A SWITCH claim granted (R82). -/
theorem State.switchJob_engineOk {a : Active} (h : ∀ c, c ≠ a.bank → s.unclaimed c) (hm : (s.bank a.bank).migClaim = none)
    (hc : a.cursor = 8) : (s.switchJob a).engineOk := by
  unfold State.switchJob
  split
  · exact s.takeSwitch_engineOk h hm
  · next he => exact State.checkFailed_engineOk _ (s.closeBank_freeAt h) hc (Bool.eq_false_of_not_eq_true he)

variable {s}

/-- The engine is as it was when the claims, the held banks and the active context stay. -/
theorem ClaimsFixed.keeps_engineOk (h : ClaimsFixed s t) (ha : t.active = s.active) (hs : s.engineOk) : t.engineOk := by
  obtain ⟨hb, hok⟩ := hs
  refine ⟨fun b => ?_, ?_⟩
  · rw [ha, engineBankOk_congr (h b).1 (.inl (h b).2)]
    exact hb b
  · rw [ha]
    cases hact : s.active with
    | none => rfl
    | some a =>
      rw [hact] at hok
      exact (Active.ok_congr (h a.bank).1).trans hok

/-- The context changes in what the claims do not name. -/
theorem State.setActive_engineOk {a a' : Active} (ha : s.active = some a) (hp : a'.phase = a.phase) (hb : a'.bank = a.bank)
    (hok : a.ok (s.bank a.bank) = true → a'.ok (s.bank a.bank) = true) (h : s.engineOk) : ({ s with active := some a' } : State).engineOk := by
  obtain ⟨ho, hw, h'⟩ := (State.engineOk_busy ha).mp h
  refine (State.engineOk_busy (s := { s with active := some a' }) rfl).mpr ⟨?_, ?_, ?_⟩
  · rw [hb]; exact ho
  · rw [hb, hp]; exact hw
  · rw [hb]; exact hok h'

/-- A flag set leaves a chunk to copy where there was one. -/
theorem Active.nextFlagged_setFlag {a : Active} {k : Chunk} (h : a.nextFlagged.isSome = true) :
    (a.setFlag k true).nextFlagged.isSome = true := by
  rw [Active.nextFlagged, List.find?_isSome] at h ⊢
  obtain ⟨j, hj, hp⟩ := h
  refine ⟨j, hj, ?_⟩
  simp only [Bool.and_eq_true] at hp ⊢
  refine ⟨?_, hp.2⟩
  rw [Active.setFlag, vget_set]
  split
  · rfl
  · exact hp.1

/-- A served WRITE leaves the context in order (R79). -/
theorem Active.written_ok {a : Active} {x : BankState} (b : Bank) (r : LRow) (c : Col) (h : a.ok x = true) : (a.written b r c).ok x = true := by
  unfold Active.written
  split
  · unfold Active.ok at h ⊢
    have hn := Active.nextFlagged_setFlag (a := a) (k := chunkOf c)
    cases hp : a.phase <;> simp_all [Active.setFlag]
    split <;> simp_all
  · exact h

theorem State.noteWrite_engineOk (b : Bank) (r : LRow) (c : Col) (h : s.engineOk) : (s.noteWrite b r c).engineOk := by
  unfold State.noteWrite
  cases ha : s.active with
  | none => exact ClaimsFixed.keeps_engineOk (.refl s) ha.symm h
  | some a =>
    refine State.setActive_engineOk (a := a) (a' := a.written b r c) ha ?_ ?_ (Active.written_ok b r c) h
    all_goals unfold Active.written; split <;> rfl

/-- A COPY claim granted leaves the context in order: in a recopy pass its chunk is chosen (R80). -/
theorem Active.granted_ok {a : Active} {x y : BankState} {k : ClaimKind} (h : a.ok x = true) (hx : x.migClaim = some k)
    (hy : y.migClaim = none) : a.granted.ok y = true := by
  unfold Active.ok at h
  rw [hx] at h
  unfold Active.granted
  cases hp : a.phase with
  | recopying =>
    simp only [hp, Bool.and_eq_true, decide_eq_true_eq, reduceCtorEq, if_false] at h
    obtain ⟨hc, hn⟩ := h
    obtain ⟨j, hj⟩ := Option.isSome_iff_exists.mp hn
    simp [hj, Active.ok, Active.setFlag, hp, hc, hy]
  | copying | switching | final => simpa [Active.ok, hp] using h

theorem Active.granted_bank (a : Active) : a.granted.bank = a.bank ∧ a.granted.phase = a.phase := by
  unfold Active.granted
  split
  · split <;> exact ⟨rfl, rfl⟩
  all_goals exact ⟨rfl, rfl⟩

/-- The migration claim granted (R36, R82). -/
theorem State.grantMigration_engineOk {b : Bank} {k : ClaimKind} (hm : (s.bank b).migClaim = some k) (h : s.engineOk) :
    (s.grantMigration b k).engineOk := by
  obtain ⟨a, ha, rfl, rfl⟩ := State.engineOk_claim h hm
  obtain ⟨ho, -, hok⟩ := (State.engineOk_busy ha).mp h
  have others (x : BankState) (c : Bank) (hc : c ≠ a.bank) : (s.setBank a.bank x).unclaimed c := by
    unfold State.unclaimed
    rw [State.bank_setBank_of_ne _ _ hc]
    exact ho c hc
  unfold State.grantMigration
  dsimp only
  cases hp : a.phase with
  | copying | recopying =>
    obtain ⟨hgb, hgp⟩ := Active.granted_bank a
    dsimp only [Phase.claim]
    rw [ha, Option.map_some]
    refine (State.engineOk_busy (a := a.granted) rfl).mpr ⟨?_, .inr ?_, ?_⟩
    · rw [hgb]; exact others _
    · rw [hgb, hgp, hp]
      refine ⟨congrArg BankState.migClaim (s.bank_setBank_self a.bank _), nofun, congrArg BankState.shadow (s.bank_setBank_self a.bank _)⟩
    · rw [hgb]
      exact Active.granted_ok hok hm (congrArg BankState.migClaim (s.bank_setBank_self a.bank _))
  | final =>
    refine (State.engineOk_busy (s := s.setBank a.bank _) (a := a) ha).mpr ⟨others _, .inr ?_, ?_⟩
    · rw [hp]
      exact ⟨congrArg BankState.migClaim (s.bank_setBank_self a.bank _), nofun, congrArg BankState.shadow (s.bank_setBank_self a.bank _)⟩
    · unfold Active.ok at hok ⊢
      rw [hp] at hok ⊢
      exact hok
  | switching =>
    have hc : a.cursor = 8 := by
      unfold Active.ok at hok
      rw [hp] at hok
      simpa using hok
    dsimp only [Phase.claim]
    rw [ha]
    dsimp only
    rw [if_pos rfl]
    exact State.switchJob_engineOk _ (others _) (congrArg BankState.migClaim (s.bank_setBank_self a.bank _)) hc

/-! ### The shifts -/

theorem State.steerClaim_engineOk (b : Bank) (r : LRow) (o : Origin) (h : s.engineOk) : (s.steerClaim b r o).1.engineOk := by
  have queued {x : BankState} (hm : x.migClaim = (s.bank b).migClaim) (hs : x.shadow = (s.bank b).shadow) :
      ((s.setBank b x).queueJob b r).engineOk :=
    State.queueJob_engineOk _ b r ((ClaimsFixed.setBank hm hs).keeps_engineOk rfl h)
  unfold State.steerClaim
  split
  · split
    · exact h
    · split
      · exact h
      · exact queued rfl rfl
  · split
    · split
      · exact h
      · split
        · exact h
        · exact queued rfl rfl
    all_goals exact h

/-- While the engine may abort at once its claim waits, and it holds no bank (R85). -/
theorem State.freeAt_of_abortable {a : Active} (ha : s.active = some a) (h : s.engineOk) (hab : s.abortable a = true) : s.freeAt a.bank := by
  obtain ⟨ho, hw, -⟩ := (State.engineOk_busy ha).mp h
  refine ⟨ho, ?_⟩
  rcases hw with ⟨-, hm⟩ | ⟨-, -, hs⟩
  · exact hm
  · unfold State.abortable at hab
    rw [hs] at hab
    cases hp : a.phase <;> simp [hp, Phase.claim, ClaimKind.job] at hab

theorem State.serveRelease_engineOk (b : Bank) (r : LRow) (h : s.engineOk) : (s.serveRelease b r).1.engineOk := by
  have cancelled (d : Spare) (e : Rec) (old : Option (Spare × Bool)) : (s.cancelMove b r d e old).1.engineOk := by
    refine ClaimsFixed.keeps_engineOk (s := { s with migQueue := s.migQueue.erase (b, r) }) (.setBank ?_ ?_) rfl h
    all_goals rw [BankState.giveUp_frame]; rfl
  unfold State.serveRelease
  split
  · exact h
  · split
    · split
      · next a ha =>
        split
        · unfold State.releaseActive
          dsimp only
          split
          · exact h
          · split
            · next hab =>
              have free := State.freeAt_of_abortable ha h hab
              exact State.abortNow_engineOk (a := { a with abort := true }) s free
            · exact State.setActive_engineOk ha rfl rfl id h
        · exact cancelled ..
      · exact cancelled ..
    · unfold State.startReturn
      split
      · exact h
      · exact State.queueJob_engineOk _ b r (ClaimsFixed.keeps_engineOk (s := s) (.setBank rfl rfl) rfl h)
    all_goals exact h

/-- SEAL leaves every claim. -/
theorem State.serveSeal_claimsFixed (b : Bank) (r : LRow) (s : State) :
    ClaimsFixed s (s.serveSeal b r).1 ∧ (s.serveSeal b r).1.active = s.active := by
  have same : ClaimsFixed s s ∧ s.active = s.active := ⟨.refl s, rfl⟩
  unfold State.serveSeal
  split
  · exact same
  · split
    all_goals try exact same
    split
    · exact same
    · exact ⟨ClaimsFixed.setBank (s := s) rfl rfl, rfl⟩
    · exact same

/-- VOID leaves every claim. -/
theorem State.serveVoid_claimsFixed (b : Bank) (d : Spare) (w : Bool) (s : State) :
    ClaimsFixed s (s.serveVoid b d w).1 ∧ (s.serveVoid b d w).1.active = s.active := by
  have same : ClaimsFixed s s ∧ s.active = s.active := ⟨.refl s, rfl⟩
  have marked : ClaimsFixed s (s.setBank b ((s.bank b).setSpare d (.bad false))) := .setBank rfl rfl
  unfold State.serveVoid
  dsimp only
  split
  case h_1 | h_3 | h_4 => exact same
  case h_2 => exact ⟨marked, rfl⟩
  case h_5 | h_6 =>
    split
    · exact same
    · exact ⟨marked, rfl⟩
    · exact same

/-- The end of a programming leaves every claim. -/
theorem State.endProgramming_claimsFixed (p : Programming) (f : FuseBytes) (s : State) : ClaimsFixed s (s.endProgramming p f) := by
  unfold State.endProgramming
  dsimp only
  generalize hu : ({ s with fuses := _, image := _, programmer := none } : State) = u
  have hs : ClaimsFixed s u := by rw [← hu]; exact .refl s
  refine hs.trans fun b => ?_
  have := u.sealResult_bank p (decide (classify f = .valid p.entry))
  generalize (u.sealResult p (decide (classify f = .valid p.entry))).bank = g at this ⊢
  cases this with
  | @row c r d d' e n hen he hst => exact ClaimsFixed.setBank (s := u) (x := (u.bank c).restate d e _) rfl rfl b
  | @void c d hen => exact ClaimsFixed.setBank (s := u) (x := (u.bank c).setSpare d _) rfl rfl b
  | stays => exact ⟨rfl, rfl⟩

/-- A slot read by the load leaves every claim. -/
theorem State.loadSlot_claimsFixed (n : FuseNo) (f : FuseBytes) (s : State) : ClaimsFixed s (s.loadSlot n f) := by
  have claimed (c : SlotClass) (u : State) : ClaimsFixed u (u.loadClaim n c) := by
    unfold State.loadClaim
    split
    · exact .refl u
    · exact .refl u
    · exact ClaimsFixed.setBank (s := u) (by rw [BankState.loadRow_frame]) (by rw [BankState.loadRow_frame])
    · exact ClaimsFixed.setBank (s := u) (by rw [BankState.loadVoid_frame]) (by rw [BankState.loadVoid_frame])
  intro b
  unfold State.loadSlot
  rw [State.tryLoadEnd_frame, State.completeSummary_frame]
  exact claimed _ { s with image := s.image.set n.val (classify f).toImage n.isLt } b

theorem Shift.keeps_engineOk (h : Shift s t) (hs : s.engineOk) : t.engineOk := by
  cases h with
  | writes b r c => exact State.noteWrite_engineOk b r c hs
  | grants _ _ hm => exact State.grantMigration_engineOk hm hs
  | @endsMainChunk a k ha hsh hk hp =>
    obtain ⟨ho, -, -, hok⟩ := State.engineOk_held (k := .copy) hs ha hsh
    have fixed := s.copyChunk_claimsFixed k
    refine State.afterMainChunk_engineOk _ (a := a.counted _) (State.closeBank_freeAt _ fun c hc => fixed.unclaimed (ho c hc)) ?_
    unfold Active.ok at hok
    rw [hp] at hok
    exact of_decide_eq_true hok
  | @endsRecopyChunk a k ha hsh hk hp =>
    obtain ⟨ho, -, -, hok⟩ := State.engineOk_held (k := .copy) hs ha hsh
    have fixed := s.copyChunk_claimsFixed k
    refine State.afterRecopyChunk_engineOk _ (a := a.counted _) (State.closeBank_freeAt _ fun c hc => fixed.unclaimed (ho c hc)) ?_
    unfold Active.ok at hok
    rw [hp] at hok
    simp only [Bool.and_eq_true, decide_eq_true_eq] at hok
    exact hok.1
  | @endsFinal a ha hsh =>
    obtain ⟨ho, hm, -, -⟩ := State.engineOk_held (k := .final) hs ha hsh
    have fixed := s.copyFlagged_claimsFixed a.flagged
    exact State.takeSwitch_engineOk _ (fun c hc => fixed.unclaimed (ho c hc)) ((fixed _).1.trans hm)
  | steers b r o => exact State.steerClaim_engineOk b r o hs
  | releases b r => exact State.serveRelease_engineOk b r hs
  | seals b r => exact (s.serveSeal_claimsFixed b r).1.keeps_engineOk (s.serveSeal_claimsFixed b r).2 hs
  | voids b d w => exact (s.serveVoid_claimsFixed b d w).1.keeps_engineOk (s.serveVoid_claimsFixed b d w).2 hs
  | programs f => exact (State.endProgramming_claimsFixed _ f s).keeps_engineOk (by rw [State.endProgramming_frame]) hs
  | loads f => exact (State.loadSlot_claimsFixed _ f s).keeps_engineOk (by rw [State.loadSlot_frame]) hs
  | starts =>
    refine ClaimsFixed.keeps_engineOk (s := s) (fun b => ?_) (by rw [State.tryLoadEnd_frame]) hs
    rw [State.tryLoadEnd_frame]
    exact ⟨rfl, rfl⟩

end

end Sys2Proof.Machine
end

section
/-! The jobs of the migration engine and their records after every step (O57, its second half). -/
namespace Sys2Proof.Machine

/-! ### The moves that a bank's records give -/

/-- Kind, source and destination of a move. -/
abbrev Move := MoveKind × PRow × PRow

/-- The move of the record of a row, if it has one (R7, R70). -/
def BankState.moveOf (x : BankState) (r : LRow) : Option Move := (x.recOf r).bind fun y => y.2.move y.1

/-- The row of the record in a slot with the move it gives. -/
def BankState.moveAt (x : BankState) (d : Spare) : Option (LRow × Option Move) := (x.records.get d).map fun e => (e.row, e.move d)

section
variable {x y : BankState} {r r' : LRow}

/-- Banks whose records are of the same rows and give the same moves give each row the same move. -/
theorem BankState.moveOf_congr (h : ∀ d, y.moveAt d = x.moveAt d) : y.moveOf r = x.moveOf r := by
  have slot (z : BankState) : z.slotOf r = (List.finRange 8).find? fun d => (z.moveAt d).any fun m => decide (m.1 = r) := by
    unfold BankState.slotOf BankState.moveAt
    congr 1
    funext d
    cases z.records.get d <;> simp
  have move (z : BankState) : z.moveOf r = (z.slotOf r).bind fun d => (z.moveAt d).bind Prod.snd := by
    unfold BankState.moveOf BankState.recOf BankState.moveAt
    cases z.slotOf r with
    | none => rfl
    | some d => cases hd : z.records.get d <;> simp [hd]
  rw [move, move, slot, slot]
  simp only [h]

/-- In a table in order, a row's move is that of the record of the row. -/
theorem BankState.moveOf_eq_some (h : x.tableOk) {m : Move} : x.moveOf r = some m ↔ ∃ d, x.moveAt d = some (r, some m) := by
  unfold BankState.moveOf BankState.moveAt
  constructor
  · intro hm
    obtain ⟨⟨d, e⟩, he, hm⟩ := Option.bind_eq_some_iff.mp hm
    obtain ⟨hd, hr⟩ := BankState.recOf_some he
    exact ⟨d, by rw [hd, Option.map_some, hr, hm]⟩
  · rintro ⟨d, hd⟩
    obtain ⟨e, he, hem⟩ := Option.map_eq_some_iff.mp hd
    obtain ⟨rfl, hm⟩ := Prod.mk.inj hem
    rw [BankState.recOf_eq h he rfl]
    exact hm

theorem BankState.setRec_moveAt {d d' : Spare} {e : Option Rec} :
    (x.setRec d e).moveAt d' = if d' = d then e.map (fun e => (e.row, e.move d)) else x.moveAt d' := by
  unfold BankState.moveAt
  rw [BankState.setRec_records_get]
  split
  · next h => rw [h]
  · rfl

theorem BankState.setSpare_moveAt {d d' : Spare} {v : SpareState} : (x.setSpare d v).moveAt d' = x.moveAt d' := rfl

theorem BankState.moveAt_eq {d : Spare} {e : Rec} (h : x.records.get d = some e) : x.moveAt d = some (e.row, e.move d) := by
  unfold BankState.moveAt; rw [h]; rfl

/-- A slot's record is of the row it names, and no other slot's is. -/
theorem BankState.moveAt_unique (h : x.tableOk) {d d' : Spare} {m m' : Option Move} (h1 : x.moveAt d = some (r, m))
    (h2 : x.moveAt d' = some (r, m')) : d = d' := by
  have row {d : Spare} {m : Option Move} (h : x.moveAt d = some (r, m)) : x.rowAt d = some r := by
    obtain ⟨e, he, hm⟩ := Option.map_eq_some_iff.mp h
    cases hm
    exact BankState.rowAt_eq he
  exact (BankState.tableOk_iff.mp h).1 d d' r (row h1) (row h2)

/-- What a change of the table does to the moves: row r has the move m, every other row the move it had. -/
def BankState.SetsMove (x y : BankState) (r : LRow) (m : Option Move) : Prop := ∀ r', y.moveOf r' = if r' = r then m else x.moveOf r'

/-- To see what the moves are it is enough to see which slots give some. -/
theorem BankState.SetsMove.of_moveAt {m : Option Move} (hx : x.tableOk) (hy : y.tableOk)
    (h : ∀ r' m', (∃ d, y.moveAt d = some (r', some m')) ↔ if r' = r then m = some m' else ∃ d, x.moveAt d = some (r', some m')) :
    x.SetsMove y r m := by
  intro r'
  refine Option.ext fun m' => ?_
  rw [BankState.moveOf_eq_some hy, h]
  split
  · rfl
  · rw [BankState.moveOf_eq_some hx]

/-- A row set to the move it has keeps the moves. -/
theorem BankState.SetsMove.keeps {m : Option Move} (h : x.SetsMove y r m) (hm : x.moveOf r = m) : y.moveOf r' = x.moveOf r' := by
  rw [h]
  split
  · next hr => rw [hr, hm]
  · rfl

theorem BankState.noRecord_moveAt : x.noRecord r ↔ ∀ d m, x.moveAt d ≠ some (r, m) := by
  rw [BankState.noRecord_iff]
  unfold BankState.rowAt BankState.moveAt
  constructor
  · intro h d m hm
    obtain ⟨e, he, hem⟩ := Option.map_eq_some_iff.mp hm
    cases hem
    exact h d (by rw [he]; rfl)
  · intro h d hr
    obtain ⟨e, he, her⟩ := Option.map_eq_some_iff.mp hr
    exact h d (e.move d) (by rw [he, ← her]; rfl)

/-- An empty slot gives no move. -/
theorem BankState.moveAt_of_rowAt {d : Spare} (h : x.rowAt d = none) : x.moveAt d = none := by
  unfold BankState.rowAt at h
  unfold BankState.moveAt
  simpa using h

/-- A record put in a free slot for a row that has none. -/
theorem BankState.setRec_new_setsMove (hx : x.tableOk) (hy : y.tableOk) {d : Spare} {e : Rec} (hn : x.noRecord e.row) (hd : x.rowAt d = none)
    (h : ∀ d', y.moveAt d' = (x.setRec d (some e)).moveAt d') : x.SetsMove y e.row (e.move d) := by
  have hd := BankState.moveAt_of_rowAt hd
  rw [BankState.noRecord_moveAt] at hn
  refine .of_moveAt hx hy fun r' m' => ?_
  simp only [h, BankState.setRec_moveAt, Option.map_some]
  grind

/-- A record replaced, or removed from its slot, under its row, in a slot that holds it or an empty one. -/
theorem BankState.replaced_setsMove (hx : x.tableOk) (hy : y.tableOk) {d d' : Spare} {e : Rec} {e' : Option Rec} (he : x.records.get d = some e)
    (hr : ∀ f, e' = some f → f.row = e.row) (hd : d' = d ∨ x.rowAt d' = none)
    (h : ∀ c, y.moveAt c = ((x.setRec d none).setRec d' e').moveAt c) :
    x.SetsMove y e.row (e'.bind fun f => f.move d') := by
  have hat := BankState.moveAt_eq he
  have hempty : d' = d ∨ x.moveAt d' = none := hd.imp_right BankState.moveAt_of_rowAt
  have huniq (c : Spare) (m : Option Move) (h : x.moveAt c = some (e.row, m)) := BankState.moveAt_unique hx h hat
  refine .of_moveAt hx hy fun r' m' => ?_
  simp only [h, BankState.setRec_moveAt]
  cases e' with
  | none =>
    simp only [Option.map_none, Option.bind_none]
    grind
  | some f =>
    have hr := hr f rfl
    simp only [Option.map_some, Option.bind_some, Option.map_none, hr]
    grind

/-! ### What each transition does to the moves -/

theorem BankState.firstSteer_setsMove (hx : x.tableOk) {d : Spare} (o : Origin) (hr : x.noRecord r) (hd : x.spares.get d = .free) :
    x.SetsMove (x.firstSteer r d o) r (some (.move, ownRow r, spareRow d)) :=
  BankState.setRec_new_setsMove (d := d) (e := { row := r, state := .migrating none, origin := o, poison := 0 }) hx
    (BankState.firstSteer_tableOk hx o hr hd) hr (BankState.of_not_held (d := d) hx (by simp [hd])).1 fun _ => rfl

theorem BankState.reSteer_setsMove (hx : x.tableOk) {f d : Spare} {e : Rec} (o : Origin) (retire : Bool) (he : x.records.get f = some e)
    (hs : e.state = .steered) (hd : x.spares.get d = .free) :
    x.SetsMove (x.reSteer f e d o retire) e.row (some (.move, spareRow f, spareRow d)) := by
  have hrow := (BankState.of_not_held (d := d) hx (by simp [hd])).1
  exact BankState.replaced_setsMove (e' := some { e with state := .migrating (some (f, retire)), origin := o }) hx
    (BankState.reSteer_tableOk hx o retire he hs hd) he (by rintro _ ⟨⟩; rfl) (.inr hrow) fun _ => rfl

/-- A record replaced in its own slot. -/
theorem BankState.setRec_own_setsMove (hx : x.tableOk) {d : Spare} {e : Rec} {e' : Option Rec} (hy : y.tableOk) (he : x.records.get d = some e)
    (hr : ∀ f, e' = some f → f.row = e.row) (h : ∀ c, y.moveAt c = (x.setRec d e').moveAt c) :
    x.SetsMove y e.row (e'.bind fun f => f.move d) := by
  refine BankState.replaced_setsMove hx hy he hr (.inl rfl) fun c => ?_
  rw [h]
  simp only [BankState.setRec_moveAt]
  split <;> rfl

theorem BankState.giveUp_setsMove (hx : x.tableOk) {d : Spare} {e : Rec} {old : Option (Spare × Bool)} (he : x.records.get d = some e)
    (hs : e.state = .migrating old) : x.SetsMove (x.giveUp d e old) e.row none := by
  have hy := BankState.giveUp_tableOk hx he hs
  rcases old with _ | ⟨f, retire⟩
  · exact BankState.setRec_own_setsMove (e' := none) hx hy he nofun fun _ => rfl
  · have hf : x.rowAt f = none := (BankState.tableOk_iff.mp hx).2.2.1 d f (by rw [BankState.fromSpare_eq he, hs]; rfl)
    exact BankState.replaced_setsMove (e' := some { e with state := .steered }) hx hy he (by rintro _ ⟨⟩; rfl) (.inr hf) fun _ => rfl

theorem BankState.switched_setsMove (hx : x.tableOk) {d : Spare} {e : Rec} {old : Option (Spare × Bool)} (he : x.records.get d = some e)
    (hs : e.state = .migrating old) : x.SetsMove (x.switched d e old) e.row none := by
  refine BankState.setRec_own_setsMove (e' := some { e with state := .steered }) hx (BankState.switched_tableOk hx he hs) he
    (by rintro _ ⟨⟩; rfl) fun _ => ?_
  rcases old with _ | ⟨f, retire⟩ <;> rfl

theorem BankState.returned_setsMove (hx : x.tableOk) {d : Spare} {e : Rec} (he : x.records.get d = some e) (hs : e.state = .returning) :
    x.SetsMove (x.returned d) e.row none :=
  BankState.setRec_own_setsMove (e' := none) hx (BankState.returned_tableOk hx he hs) he nofun fun _ => rfl

theorem BankState.restate_setsMove (hx : x.tableOk) {d : Spare} {e : Rec} {st : RecState} (he : x.records.get d = some e)
    (ho : e.state.old = none) (ho' : st.old = none) : x.SetsMove (x.restate d e st) e.row (Rec.move d { e with state := st }) :=
  BankState.setRec_own_setsMove (e' := some { e with state := st }) hx (BankState.restate_keepsTable he ho ho' hx).1 he
    (by rintro _ ⟨⟩; rfl) fun _ => rfl

/-- The move of the row of a record is the one its record gives. -/
theorem BankState.moveOf_record (hx : x.tableOk) {d : Spare} {e : Rec} (he : x.records.get d = some e) : x.moveOf e.row = e.move d := by
  unfold BankState.moveOf
  rw [BankState.recOf_eq hx he rfl]
  rfl

theorem BankState.moveOf_noRecord (hr : x.noRecord r) : x.moveOf r = none := by
  unfold BankState.moveOf
  rw [BankState.recOf_eq_none.mpr hr]
  rfl

/-- A record without a job put into another state without one keeps the moves. -/
theorem BankState.restate_moveOf {d : Spare} {e : Rec} {st : RecState} (he : x.records.get d = some e) (hj : e.state.hasJob = false)
    (hj' : st.hasJob = false) : (x.restate d e st).moveOf r = x.moveOf r := by
  refine BankState.moveOf_congr fun c => ?_
  have none {f : Rec} (hf : f.state.hasJob = false) : f.move d = none := by
    rw [← Option.not_isSome_iff_eq_none, Rec.move_isSome, hf]
    exact nofun
  rw [BankState.restate, BankState.setRec_moveAt]
  split
  · next hc => rw [hc, BankState.moveAt_eq he, none hj, Option.map_some, none (by exact hj')]
  · rfl

theorem BankState.poisoned_moveOf (n : Nat) : (x.poisoned r' n).moveOf r = x.moveOf r := by
  unfold BankState.poisoned
  split
  · rfl
  · next d e he =>
    refine BankState.moveOf_congr fun c => ?_
    rw [BankState.setRec_moveAt]
    split
    · next hc => rw [hc, BankState.moveAt_eq (BankState.recOf_some he).1]; rfl
    · rfl

theorem BankState.loadRow_moveOf (hx : x.tableOk) (n : FuseNo) (d : Spare) : (x.loadRow n r' d).1.moveOf r = x.moveOf r := by
  have hy := BankState.loadRow_tableOk hx n r' d
  unfold BankState.loadRow at hy ⊢
  split
  · rfl
  · next hc =>
    rw [if_neg hc] at hy
    simp only [not_or, Option.not_isSome_iff_eq_none, BankState.recOf_eq_none, ne_eq, not_not] at hc
    obtain ⟨hr, hd⟩ := hc
    have hrow := (BankState.of_not_held (d := d) hx (by simp [hd])).1
    have sets := BankState.setRec_new_setsMove (e := { row := r', state := .fused n, origin := .restored, poison := 0 }) hx hy hr hrow
      fun _ => rfl
    exact sets.keeps (BankState.moveOf_noRecord hr)

/-! ### Jobs and moves -/

/-- The move of the record of a key. -/
def State.moveOf (s : State) (k : Bank × LRow) : Option Move := (s.bank k.1).moveOf k.2

/-- The key of a job. -/
def Active.key (a : Active) : Bank × LRow := (a.bank, a.row)

/-- What the records know of the active job: its key, its kind and rows, and whether its abort is pending. -/
def Active.job (a : Active) : (Bank × LRow) × Move × Bool := (a.key, (a.kind, a.source, a.dest), a.abort)

/-- The jobs fit the records: no two of one key, one for each record that gives a move and none else; the active job is as its record gives
it, and aborts only a move. -/
structure State.jobsFit (s : State) : Prop where
  nodup : s.jobKeys.Nodup
  named : ∀ k, k ∈ s.jobKeys ↔ (s.moveOf k).isSome = true
  active : ∀ a, s.active = some a → s.moveOf a.key = some (a.kind, a.source, a.dest) ∧ (a.abort = true → a.kind = .move)

/-- An IDLE engine has no pending job (R71). -/
def State.idleEmpty (s : State) : Prop := s.active = none → s.migQueue = []

theorem State.jobsOk_iff {s : State} (ht : ∀ b, (s.bank b).tableOk) : s.jobsOk ↔ s.jobsFit ∧ s.idleEmpty := by
  have moved (k : Bank × LRow) : (((s.bank k.1).recOf k.2).any fun y => y.2.state.hasJob) = (s.moveOf k).isSome := by
    unfold State.moveOf BankState.moveOf
    cases (s.bank k.1).recOf k.2 with
    | none => rfl
    | some y => rw [Option.any_some, Option.bind_some, Rec.move_isSome]
  have records : (∀ b d, ((s.bank b).records.get d).all (fun e => !e.state.hasJob || decide ((b, e.row) ∈ s.jobKeys)) = true) ↔
      ∀ k, (s.moveOf k).isSome = true → k ∈ s.jobKeys := by
    constructor
    · intro h k hk
      rw [← moved] at hk
      obtain ⟨⟨d, e⟩, he, hj⟩ := (Option.any_eq_true ..).mp hk
      obtain ⟨hd, hr⟩ := BankState.recOf_some he
      have := h k.1 d
      rw [hd, Option.all_some, hj, hr] at this
      simpa using this
    · intro h b d
      rw [Option.all_eq_true]
      intro e he
      cases hj : e.state.hasJob with
      | false => rfl
      | true =>
        have : (s.moveOf (b, e.row)).isSome = true := by
          unfold State.moveOf
          rw [BankState.moveOf_record (ht b) he, Rec.move_isSome, hj]
        simpa using h _ this
  have context (a : Active) : ((((s.bank a.bank).recOf a.row).any fun y => decide (y.2.move y.1 = some (a.kind, a.source, a.dest)))
      && (!a.abort || decide (a.kind = .move))) = true ↔ s.moveOf a.key = some (a.kind, a.source, a.dest) ∧ (a.abort = true → a.kind = .move) := by
    have move : (((s.bank a.bank).recOf a.row).any fun y => decide (y.2.move y.1 = some (a.kind, a.source, a.dest))) = true ↔
        s.moveOf a.key = some (a.kind, a.source, a.dest) := by
      unfold State.moveOf BankState.moveOf Active.key
      cases (s.bank a.bank).recOf a.row <;> simp
    rw [Bool.and_eq_true, move]
    cases a.abort <;> simp
  unfold State.jobsOk
  rw [records, List.all_eq_true, Option.all_eq_true]
  simp only [moved, context]
  constructor
  · rintro ⟨h1, h2, h3, h4, h5⟩
    exact ⟨⟨h1, fun k => ⟨h2 k, h3 k⟩, h4⟩, h5⟩
  · rintro ⟨⟨h1, h2, h4⟩, h5⟩
    exact ⟨h1, fun k => (h2 k).mp, fun k => (h2 k).mpr, h4, h5⟩

/-! ### What the engine's operations leave of the jobs -/

section
variable {s t u : State}

/-- Every record's move, and the jobs with what the records know of them, stay. -/
structure JobsFixed (s t : State) : Prop where
  moves : ∀ k, t.moveOf k = s.moveOf k
  queue : t.migQueue = s.migQueue
  active : t.active.map Active.job = s.active.map Active.job

theorem JobsFixed.refl (s : State) : JobsFixed s s := ⟨fun _ => rfl, rfl, rfl⟩

theorem JobsFixed.trans (h : JobsFixed s t) (h' : JobsFixed t u) : JobsFixed s u :=
  ⟨fun k => (h'.moves k).trans (h.moves k), h'.queue.trans h.queue, h'.active.trans h.active⟩

/-- The keys of the jobs are those of what the records know of them. -/
theorem State.jobKeys_eq (s : State) : s.jobKeys = ((s.active.map Active.job).map Prod.fst).toList ++ s.migQueue := by
  unfold State.jobKeys
  rw [Option.map_map]
  rfl

/-- The active job, said of what the records know of it. -/
theorem State.jobsFit_iff : s.jobsFit ↔ s.jobKeys.Nodup ∧ (∀ k, k ∈ s.jobKeys ↔ (s.moveOf k).isSome = true)
    ∧ ∀ j, s.active.map Active.job = some j → s.moveOf j.1 = some j.2.1 ∧ (j.2.2 = true → j.2.1.1 = .move) := by
  constructor
  · rintro ⟨h1, h2, h3⟩
    refine ⟨h1, h2, fun j hj => ?_⟩
    obtain ⟨a, ha, rfl⟩ := Option.map_eq_some_iff.mp hj
    exact h3 a ha
  · rintro ⟨h1, h2, h3⟩
    exact ⟨h1, h2, fun a ha => h3 a.job (by rw [ha]; rfl)⟩

theorem JobsFixed.keeps_jobsFit (h : JobsFixed s t) (hs : s.jobsFit) : t.jobsFit := by
  rw [State.jobsFit_iff, State.jobKeys_eq] at hs ⊢
  rw [h.active, h.queue]
  simpa only [h.moves] using hs

theorem JobsFixed.keeps_idleEmpty (h : JobsFixed s t) (hs : s.idleEmpty) : t.idleEmpty := by
  intro ha
  rw [h.queue]
  refine hs ?_
  have := h.active
  rw [ha] at this
  exact Option.map_eq_none_iff.mp this.symm

theorem Calm.jobsFixed (h : Calm s t) : JobsFixed s t := by
  refine ⟨fun k => BankState.moveOf_congr fun d => ?_, h.migQueue, by rw [h.active]⟩
  unfold BankState.moveAt
  rw [h.records]

theorem Moves.jobsFixed {quiet : Bool} (h : Moves true quiet s t) : JobsFixed s t := by
  induction h with
  | refl => exact .refl s
  | tail _ hm ih => exact ih.trans hm.calm.jobsFixed

/-- One bank changes and keeps its moves. -/
theorem JobsFixed.setBank {b : Bank} {x : BankState} (h : ∀ r, x.moveOf r = (s.bank b).moveOf r) : JobsFixed s (s.setBank b x) := by
  refine ⟨fun k => ?_, rfl, rfl⟩
  unfold State.moveOf
  rw [State.bank_setBank]
  split
  · next hb => rw [hb]; exact h k.2
  · rfl

/-- The active context changes in what the records do not know. -/
theorem JobsFixed.setActive (h : JobsFixed s t) {o : Option Active} (ho : o.map Active.job = t.active.map Active.job) :
    JobsFixed s { t with active := o } := ⟨h.moves, h.queue, ho.trans h.active⟩

/-- A bank's table changed for one row sets the move of its key. -/
theorem State.setBank_moveOf {b : Bank} {x : BankState} {r : LRow} {m : Option Move} (h : (s.bank b).SetsMove x r m) (k : Bank × LRow) :
    (s.setBank b x).moveOf k = if k = (b, r) then m else s.moveOf k := by
  obtain ⟨c, r'⟩ := k
  unfold State.moveOf
  rw [State.bank_setBank]
  by_cases hc : c = b
  · subst hc
    simp only [if_true, h r', Prod.mk.injEq, true_and]
  · simp [hc]

/-- A key without a move has no job. -/
theorem State.jobsFit.not_mem (h : s.jobsFit) {k : Bank × LRow} (hk : s.moveOf k = none) : k ∉ s.jobKeys := by
  rw [h.named, hk]
  exact nofun

/-- The queue's next job taken by an IDLE engine is as its record gives it (R71, R72). -/
theorem State.takeJob_jobs (h : s.jobsFit) : s.takeJob.jobsFit ∧ s.takeJob.idleEmpty := by
  unfold State.takeJob
  split
  · next b r q ha hq =>
    have hk : (b, r) ∈ s.jobKeys := by rw [State.jobKeys_eq, hq]; simp
    obtain ⟨m, hm⟩ := Option.isSome_iff_exists.mp ((h.named _).mp hk)
    have hj : s.jobOf b r = some (Active.start b r m.1 m.2.1 m.2.2) := by
      unfold State.moveOf BankState.moveOf at hm
      unfold State.jobOf
      cases he : (s.bank b).recOf r with
      | none => rw [he] at hm; cases hm
      | some y => rw [he] at hm; dsimp only at hm ⊢; rw [Option.bind_some] at hm; rw [hm]; rfl
    rw [hj]
    dsimp only
    have moves (k : Bank × LRow) : (State.placeClaim b .copy { s with
        migQueue := q, active := some (Active.start b r m.1 m.2.1 m.2.2) }).moveOf k = s.moveOf k := by
      unfold State.moveOf State.placeClaim
      rw [State.bank_setBank]
      split
      · next hb => rw [hb]; rfl
      · rfl
    have keys : (State.placeClaim b .copy { s with
        migQueue := q, active := some (Active.start b r m.1 m.2.1 m.2.2) }).jobKeys = s.jobKeys := by
      rw [State.jobKeys_eq, State.jobKeys_eq, ha, hq]
      rfl
    refine ⟨⟨by rw [keys]; exact h.nodup, fun k => by rw [keys, moves]; exact h.named k, ?_⟩, nofun⟩
    rintro a ⟨⟩
    rw [moves]
    exact ⟨hm, nofun⟩
  · next hno =>
    refine ⟨h, fun ha => ?_⟩
    cases hq : s.migQueue with
    | nil => rfl
    | cons k q => exact absurd hq (hno k.1 k.2 q ha)

/-- A job joined to the queue for a record that has just got its move (R70). -/
theorem State.queueJob_jobs {b : Bank} {r : LRow} {m : Move} (h : s.jobsFit) (hn : s.moveOf (b, r) = none) (hq : t.migQueue = s.migQueue)
    (ha : t.active = s.active) (hm : ∀ k, t.moveOf k = if k = (b, r) then some m else s.moveOf k) :
    (t.queueJob b r).jobsFit ∧ (t.queueJob b r).idleEmpty := by
  refine State.takeJob_jobs (s := { t with migQueue := t.migQueue ++ [(b, r)] }) ?_
  have hno := h.not_mem hn
  have keys : ({ t with migQueue := t.migQueue ++ [(b, r)] } : State).jobKeys = s.jobKeys ++ [(b, r)] := by
    rw [State.jobKeys_eq, State.jobKeys_eq, ha, hq, List.append_assoc]
  have moves (k : Bank × LRow) : ({ t with migQueue := t.migQueue ++ [(b, r)] } : State).moveOf k
      = if k = (b, r) then some m else s.moveOf k := hm k
  refine ⟨?_, fun k => ?_, fun a hact => ?_⟩
  · rw [keys]
    exact h.nodup.append (List.nodup_singleton _) (by simpa using hno)
  · rw [keys, moves, List.mem_append, List.mem_singleton, h.named]
    split
    · next hk => simp [hk]
    · next hk => simp [hk]
  · have hact : s.active = some a := ha ▸ hact
    have hk : a.key ≠ (b, r) := by
      intro hk
      refine hno (hk ▸ ?_)
      rw [State.jobKeys_eq, hact]
      exact List.mem_cons_self
    rw [moves, if_neg hk]
    exact h.active a hact

/-- The active job gone with its record's move; the next one is taken (R71). -/
theorem State.ended_jobs {a : Active} (h : s.jobsFit) (ha : s.active = some a) (hq : t.migQueue = s.migQueue)
    (hm : ∀ k, t.moveOf k = if k = a.key then none else s.moveOf k) :
    ({ t with active := none } : State).takeJob.jobsFit ∧ ({ t with active := none } : State).takeJob.idleEmpty := by
  refine State.takeJob_jobs (s := { t with active := none }) ?_
  have old : s.jobKeys = a.key :: s.migQueue := by rw [State.jobKeys_eq, ha]; rfl
  have hnodup := h.nodup
  rw [old, List.nodup_cons] at hnodup
  obtain ⟨hno, hnodup⟩ := hnodup
  have keys : ({ t with active := none } : State).jobKeys = s.migQueue := by rw [State.jobKeys_eq, ← hq]; rfl
  have moves (k : Bank × LRow) : ({ t with active := none } : State).moveOf k = if k = a.key then none else s.moveOf k := hm k
  refine ⟨by rw [keys]; exact hnodup, fun k => ?_, nofun⟩
  rw [keys, moves]
  have named := h.named k
  rw [old, List.mem_cons] at named
  split
  · next hk => rw [hk]; exact ⟨fun h => absurd h hno, nofun⟩
  · next hk => rw [← named]; simp [hk]

/-- A pending job's record loses its move and the job leaves the queue (R12). -/
theorem State.cancelled_jobs {b : Bank} {r : LRow} (h : s.jobsFit) (hi : s.idleEmpty) (hk : ∀ a, s.active = some a → a.key ≠ (b, r))
    (hq : t.migQueue = s.migQueue.erase (b, r)) (ha : t.active = s.active)
    (hm : ∀ k, t.moveOf k = if k = (b, r) then none else s.moveOf k) : t.jobsFit ∧ t.idleEmpty := by
  have keys : t.jobKeys = s.jobKeys.erase (b, r) := by
    rw [State.jobKeys_eq, State.jobKeys_eq, ha, hq]
    cases hact : s.active with
    | none => rfl
    | some a => exact (List.erase_cons_tail (by simpa [Active.job] using hk a hact)).symm
  refine ⟨⟨?_, fun k => ?_, fun a hact => ?_⟩, fun hnone => ?_⟩
  · rw [keys]; exact h.nodup.erase _
  · rw [keys, h.nodup.mem_erase_iff, hm, h.named]
    split
    · next hk => simp [hk]
    · next hk => simp [hk]
  · have hact : s.active = some a := ha ▸ hact
    rw [hm, if_neg (hk a hact)]
    exact h.active a hact
  · rw [hq, hi (ha ▸ hnone)]
    rfl

/-! ### Switch, abort and the pass decisions -/

/-- Every bank's table is in order. -/
def State.tables (s : State) : Prop := ∀ b, (s.bank b).tableOk

theorem TableSteps.keeps_tables (h : TableSteps s t) (hs : s.tables) : t.tables := fun b => ((h b).1 (hs b)).1

/-- The jobs fit the records and an IDLE engine has none. -/
def State.jobsDone (s : State) : Prop := s.jobsFit ∧ s.idleEmpty

theorem JobsFixed.keeps_jobsDone (h : JobsFixed s t) (hs : s.jobsDone) : t.jobsDone := ⟨h.keeps_jobsFit hs.1, h.keeps_idleEmpty hs.2⟩

/-- The engine's context `a` is that of the active job, as far as the records know. -/
def State.hasJob (s : State) (a : Active) : Prop := s.active.map Active.job = some a.job

theorem State.hasJob.of_active {a : Active} (h : s.active = some a) : s.hasJob a := by rw [State.hasJob, h]; rfl

theorem JobsFixed.hasJob (h : JobsFixed s t) {a : Active} (hs : s.hasJob a) : t.hasJob a := h.active.trans hs

/-- The switch removes the move of the active job's record (R21, R22). -/
theorem State.switchRecord_moveOf {a : Active} (ht : s.tables) (hj : s.moveOf a.key = some (a.kind, a.source, a.dest)) (k : Bank × LRow) :
    (s.switchRecord a).moveOf k = if k = a.key then none else s.moveOf k := by
  obtain ⟨⟨d, e⟩, he, hm⟩ := Option.bind_eq_some_iff.mp hj
  obtain ⟨hd, hr⟩ := BankState.recOf_some he
  have key : a.key = (a.bank, e.row) := by rw [hr]; rfl
  unfold State.switchRecord
  rw [show (s.bank a.bank).recOf a.row = some (d, e) from he, key]
  unfold Rec.move at hm
  dsimp only at hm ⊢
  cases hs : e.state with
  | migrating old =>
    rw [hs] at hm
    obtain ⟨hk, -⟩ := Prod.mk.inj (Option.some.inj hm)
    rw [← hk]
    exact State.setBank_moveOf (BankState.switched_setsMove (ht _) hd hs) k
  | returning =>
    rw [hs] at hm
    obtain ⟨hk, -⟩ := Prod.mk.inj (Option.some.inj hm)
    rw [← hk]
    exact State.setBank_moveOf (BankState.returned_setsMove (ht _) hd hs) k
  | steered | sealing | fused => rw [hs] at hm; cases hm

/-- The abort removes the move of the active job's record (R23). -/
theorem State.abortRecord_moveOf {a : Active} (ht : s.tables) (hj : s.moveOf a.key = some (a.kind, a.source, a.dest)) (hk : a.kind = .move)
    (k : Bank × LRow) : (s.abortRecord a).moveOf k = if k = a.key then none else s.moveOf k := by
  obtain ⟨⟨d, e⟩, he, hm⟩ := Option.bind_eq_some_iff.mp hj
  obtain ⟨hd, hr⟩ := BankState.recOf_some he
  have key : a.key = (a.bank, e.row) := by rw [hr]; rfl
  unfold State.abortRecord
  rw [show (s.bank a.bank).recOf a.row = some (d, e) from he, key]
  unfold Rec.move at hm
  dsimp only at hm ⊢
  cases hs : e.state with
  | migrating old => exact State.setBank_moveOf (BankState.giveUp_setsMove (ht _) hd hs) k
  | returning =>
    rw [hs, hk] at hm
    cases hm
  | steered | sealing | fused => rw [hs] at hm; cases hm

/-- The active job as its record gives it. -/
theorem State.jobsFit.moveOf_key (h : s.jobsFit) {a : Active} (ha : s.hasJob a) :
    s.moveOf a.key = some (a.kind, a.source, a.dest) ∧ (a.abort = true → a.kind = .move) :=
  (State.jobsFit_iff.mp h).2.2 a.job ha

/-- Closing a bank keeps every move. -/
theorem State.closeBank_jobsFixed (b : Bank) (s : State) : JobsFixed s (s.closeBank b) := .setBank fun _ => rfl

theorem State.placeClaim_jobsFixed (b : Bank) (k : ClaimKind) (s : State) : JobsFixed s (s.placeClaim b k) := .setBank fun _ => rfl

theorem State.takeSwitch_jobs {a : Active} (ht : s.tables) (h : s.jobsFit) (ha : s.hasJob a) : (s.takeSwitch a).jobsDone := by
  obtain ⟨a0, ha0, hj0⟩ := Option.map_eq_some_iff.mp ha
  obtain ⟨hkey, -⟩ := Prod.mk.inj hj0
  have closed := State.closeBank_jobsFixed a.bank (s.switchRecord a)
  refine State.ended_jobs (t := (s.switchRecord a).closeBank a.bank) h ha0 ?_ fun k => ?_
  · rw [closed.queue, State.switchRecord_frame]
  · rw [closed.moves, State.switchRecord_moveOf ht (h.moveOf_key ha).1, hkey]

/-- The active job aborted at once, when it is a move (R86). -/
theorem State.abortNow_jobs {a : Active} (ht : s.tables) (h : s.jobsFit) (hkey : s.active.map Active.key = some a.key)
    (hj : s.moveOf a.key = some (a.kind, a.source, a.dest)) (hk : a.kind = .move) : (s.abortNow a).jobsDone := by
  obtain ⟨a0, ha0, hkey⟩ := Option.map_eq_some_iff.mp hkey
  have withdraws : JobsFixed s (s.setBank a.bank (s.bank a.bank).withdrawn) :=
    .setBank fun r => by unfold BankState.withdrawn; split <;> rfl
  have tables : (s.setBank a.bank (s.bank a.bank).withdrawn).tables :=
    TableSteps.keeps_tables (.setBank (BankState.withdrawn_step _)) ht
  refine State.ended_jobs (t := (s.setBank a.bank (s.bank a.bank).withdrawn).abortRecord a) h ha0 ?_ fun k => ?_
  · rw [State.abortRecord_frame]; rfl
  · rw [State.abortRecord_moveOf tables (by rw [withdraws.moves, hj]) hk, withdraws.moves, hkey]

/-- An abort that was pending takes effect (R85). -/
theorem State.abortNow_jobs_of_abort {a : Active} (ht : s.tables) (h : s.jobsFit) (ha : s.hasJob a) (hab : a.abort = true) :
    (s.abortNow a).jobsDone := by
  obtain ⟨hm, hk⟩ := h.moveOf_key ha
  refine State.abortNow_jobs ht h ?_ hm (hk hab)
  obtain ⟨a0, ha0, hj0⟩ := Option.map_eq_some_iff.mp ha
  rw [ha0, Option.map_some]
  exact congrArg some (Prod.mk.inj hj0).1

/-- A phase entered with the context of the active job. -/
theorem State.enter_jobs {a : Active} (p : Phase) (k : ClaimKind) (h : s.jobsFit) (ha : s.hasJob a) : (s.enter a p k).jobsDone := by
  have entered : JobsFixed s { s with active := some { a with phase := p } } := (JobsFixed.refl s).setActive ha.symm
  exact ⟨(entered.trans (State.placeClaim_jobsFixed ..)).keeps_jobsFit h, nofun⟩

theorem State.beginPass_jobs {a : Active} (h : s.jobsFit) (ha : s.hasJob a) : (s.beginPass a).jobsDone :=
  State.enter_jobs (a := { a with passPos := none }) _ _ h ha

theorem State.passDecision_jobs {a : Active} (ht : s.tables) (h : s.jobsFit) (ha : s.hasJob a) : (s.passDecision a).jobsDone := by
  unfold State.passDecision
  split
  · next hab => exact State.abortNow_jobs_of_abort ht h ha hab
  · split
    · exact State.enter_jobs _ _ h ha
    · split
      · exact State.beginPass_jobs h ha
      · exact State.enter_jobs _ _ h ha

theorem State.checkFailed_jobs {a : Active} (h : s.jobsFit) (ha : s.hasJob a) : (s.checkFailed a).jobsDone := by
  unfold State.checkFailed
  split
  · exact State.enter_jobs _ _ h ha
  · split
    · exact State.beginPass_jobs h ha
    · exact State.enter_jobs _ _ h ha

theorem State.afterMainChunk_jobs {a : Active} (ht : s.tables) (h : s.jobsFit) (ha : s.hasJob a) : (s.afterMainChunk a).jobsDone := by
  have ha' : s.hasJob { a with cursor := a.cursor + 1 } := ha
  unfold State.afterMainChunk
  dsimp only
  split
  · next hab => exact State.abortNow_jobs_of_abort ht h ha' hab
  · split
    · exact State.enter_jobs _ _ h ha'
    · exact State.passDecision_jobs ht h ha'

theorem State.afterRecopyChunk_jobs {a : Active} (ht : s.tables) (h : s.jobsFit) (ha : s.hasJob a) : (s.afterRecopyChunk a).jobsDone := by
  unfold State.afterRecopyChunk
  split
  · next hab => exact State.abortNow_jobs_of_abort ht h ha hab
  · split
    · exact State.enter_jobs _ _ h ha
    · exact State.passDecision_jobs (a := { a with passesDone := a.passesDone + 1 }) ht h ha

theorem State.copyChunk_jobsFixed (k : Chunk) (s : State) : JobsFixed s (s.copyChunk k) := by
  unfold State.copyChunk
  split
  · exact .refl s
  · next a ha =>
    dsimp only
    have written : Moves true true s (writeBursts a.bank a.dest (s.chunkWrites a k)
        { ((s.port (a.chunkOps k)).track a.bank a.source).track a.bank a.dest with buffer := s.bufferOf a k }) := by
      refine Moves.trans (Moves.trans ?_ (.other _ rfl)) (writeBursts_moves ..)
      exact ((s.port_moves _).trans (State.track_moves ..)).trans (State.track_moves ..)
    have poisoned := written.jobsFixed.trans (.setBank (b := a.bank) fun r => BankState.poisoned_moveOf (r' := a.row) (s.chunkCounts a k).2)
    exact poisoned.setActive (by rw [poisoned.active, ha]; rfl)

theorem State.copyFlagged_jobsFixed (ks : List Chunk) (s : State) : JobsFixed s (s.copyFlagged ks) := by
  unfold State.copyFlagged
  induction ks generalizing s with
  | nil => exact .refl s
  | cons k ks ih =>
    have cleared : JobsFixed s { s with active := s.active.map fun a : Active => a.setFlag k false } :=
      (JobsFixed.refl s).setActive (by cases s.active <;> rfl)
    exact (cleared.trans (State.copyChunk_jobsFixed k _)).trans (ih _)

theorem State.switchJob_jobs {a : Active} (ht : s.tables) (h : s.jobsFit) (ha : s.hasJob a) : (s.switchJob a).jobsDone := by
  have closed := State.closeBank_jobsFixed a.bank s
  unfold State.switchJob
  split
  · exact State.takeSwitch_jobs ht h ha
  · exact State.checkFailed_jobs (closed.keeps_jobsFit h) (closed.hasJob ha)

theorem Active.granted_job (a : Active) : a.granted.job = a.job := by
  unfold Active.granted
  split
  · split <;> rfl
  all_goals rfl

theorem Active.written_job (b : Bank) (r : LRow) (c : Col) (a : Active) : (a.written b r c).job = a.job := by
  unfold Active.written
  split <;> rfl

/-- The context of every job changed in what the records do not know. -/
theorem JobsFixed.mapActive (f : Active → Active) (hf : ∀ a, (f a).job = a.job) (s : State) :
    JobsFixed s { s with active := s.active.map f } := by
  refine (JobsFixed.refl s).setActive ?_
  cases s.active with
  | none => rfl
  | some a => exact congrArg some (hf a)

theorem State.grantMigration_jobs {b : Bank} {k : ClaimKind} (ht : s.tables) (h : s.jobsDone) : (s.grantMigration b k).jobsDone := by
  have granted {x : BankState} (hx : x.records = (s.bank b).records) : JobsFixed s (s.setBank b x) :=
    .setBank fun r => BankState.moveOf_congr fun d => by unfold BankState.moveAt; rw [hx]
  unfold State.grantMigration
  dsimp only
  split
  · refine JobsFixed.keeps_jobsDone ((granted ?_).trans (JobsFixed.mapActive Active.granted Active.granted_job (s.setBank b _))) h
    rfl
  · exact JobsFixed.keeps_jobsDone (granted (by rfl)) h
  · split
    · next a ha =>
      split
      · have claimed : JobsFixed s (s.setBank b { s.bank b with
            migClaim := none, claimNew := false, passover := 0, shadow := .claimed .switch }) := granted rfl
        refine State.switchJob_jobs (TableSteps.keeps_tables (.setBank (.of_eq rfl rfl)) ht) (claimed.keeps_jobsFit h.1) ?_
        exact claimed.hasJob (.of_active ha)
      · exact JobsFixed.keeps_jobsDone (granted (by rfl)) h
    · exact JobsFixed.keeps_jobsDone (granted (by rfl)) h

/-! ### Steer and release claims -/

theorem State.steerClaim_jobs (b : Bank) (r : LRow) (o : Origin) (ht : s.tables) (h : s.jobsDone) : (s.steerClaim b r o).1.jobsDone := by
  have queued {x : BankState} {m : Move} (hn : (s.bank b).moveOf r = none) (hx : (s.bank b).SetsMove x r (some m)) :
      ((s.setBank b x).queueJob b r).jobsDone :=
    State.queueJob_jobs (t := s.setBank b x) h.1 hn rfl rfl (State.setBank_moveOf hx)
  have exhausted : (s.sparesExhausted b r o).jobsDone := JobsFixed.keeps_jobsDone (s := s) ⟨fun _ => rfl, rfl, rfl⟩ h
  unfold State.steerClaim
  split
  · next hno =>
    have hno := BankState.recOf_eq_none.mp hno
    split
    · exact exhausted
    · next d hd =>
      split
      · exact h
      · exact queued (BankState.moveOf_noRecord hno) (BankState.firstSteer_setsMove (ht b) o hno (BankState.freeSpare_some hd))
  · next f e he =>
    obtain ⟨hf, rfl⟩ := BankState.recOf_some he
    split
    · next hs =>
      have hnone : (s.bank b).moveOf e.row = none := by
        rw [BankState.moveOf_record (ht b) hf, Rec.move, hs]
      split
      · exact exhausted
      · next d hd =>
        split
        · exact h
        · exact queued hnone (BankState.reSteer_setsMove (ht b) o _ hf hs (BankState.freeSpare_some hd))
    all_goals exact h

theorem State.cancelMove_jobs {b : Bank} {d : Spare} {e : Rec} {old : Option (Spare × Bool)} (ht : s.tables) (h : s.jobsDone)
    (he : (s.bank b).records.get d = some e) (hs : e.state = .migrating old) (hk : ∀ a, s.active = some a → a.key ≠ (b, e.row)) :
    (s.cancelMove b e.row d e old).1.jobsDone :=
  State.cancelled_jobs h.1 h.2 hk rfl rfl
    (State.setBank_moveOf (s := { s with migQueue := s.migQueue.erase (b, e.row) }) (BankState.giveUp_setsMove (ht b) he hs))

theorem State.serveRelease_jobs (b : Bank) (r : LRow) (ht : s.tables) (h : s.jobsDone) : (s.serveRelease b r).1.jobsDone := by
  unfold State.serveRelease
  split
  · exact h
  · next d e he =>
    obtain ⟨hd, rfl⟩ := BankState.recOf_some he
    split
    · next old hs =>
      split
      · next a ha =>
        split
        · next hkey =>
          have key : a.key = (b, e.row) := by unfold Active.key; rw [hkey.1, hkey.2]
          obtain ⟨hm, -⟩ := h.1.moveOf_key (.of_active ha)
          have hmove : a.kind = .move := by
            have := hm
            rw [key, State.moveOf, BankState.moveOf_record (ht b) hd, Rec.move, hs] at this
            exact (Prod.mk.inj (Option.some.inj this)).1.symm
          unfold State.releaseActive
          dsimp only
          split
          · exact h
          · split
            · exact State.abortNow_jobs (a := { a with abort := true }) ht h.1 (by rw [ha]; rfl) hm hmove
            · refine ⟨⟨?_, ?_, ?_⟩, nofun⟩
              · have := h.1.nodup
                rw [State.jobKeys_eq, ha] at this
                rw [State.jobKeys_eq]
                exact this
              · have := h.1.named
                rw [State.jobKeys_eq, ha] at this
                rw [State.jobKeys_eq]
                exact this
              · rintro _ ⟨⟩
                exact ⟨hm, fun _ => hmove⟩
        · next hkey =>
          refine State.cancelMove_jobs ht h hd hs fun a' ha' hk => hkey ?_
          rw [ha] at ha'
          cases ha'
          exact Prod.mk.inj hk
      · next ha => exact State.cancelMove_jobs ht h hd hs fun a' ha' => by rw [ha] at ha'; cases ha'
    · next hs =>
      unfold State.startReturn
      split
      · exact h
      · have hnone : (s.bank b).moveOf e.row = none := by
          rw [BankState.moveOf_record (ht b) hd, Rec.move, hs]
        refine State.queueJob_jobs (t := s.setBank b ((s.bank b).restate d e .returning)) h.1 hnone rfl rfl
          (State.setBank_moveOf (m := some (.ret, spareRow d, ownRow e.row)) ?_)
        exact BankState.restate_setsMove (ht b) hd (by rw [hs]; rfl) rfl
    all_goals exact h

/-! ### The fuse store -/

theorem State.serveSeal_jobsFixed (b : Bank) (r : LRow) (s : State) : JobsFixed s (s.serveSeal b r).1 := by
  unfold State.serveSeal
  split
  · exact .refl s
  · next d e he =>
    split
    all_goals try exact .refl s
    next hs =>
    split
    · exact .refl s
    · have restated (n : FuseNo) : JobsFixed s (s.setBank b ((s.bank b).restate d e (.sealing n))) :=
        .setBank fun r => BankState.restate_moveOf (BankState.recOf_some he).1 (by rw [hs]; rfl) rfl
      exact ⟨(restated _).moves, rfl, rfl⟩
    · exact .refl s

theorem State.serveVoid_jobsFixed (b : Bank) (d : Spare) (w : Bool) (s : State) : JobsFixed s (s.serveVoid b d w).1 := by
  have marked : JobsFixed s (s.setBank b ((s.bank b).setSpare d (.bad false))) := .setBank fun _ => rfl
  unfold State.serveVoid
  dsimp only
  split
  case h_1 | h_3 | h_4 => exact .refl s
  case h_2 => exact marked
  case h_5 | h_6 =>
    split
    · exact .refl s
    · exact ⟨marked.moves, rfl, rfl⟩
    · exact .refl s

theorem State.endProgramming_jobsFixed (p : Programming) (f : FuseBytes) (s : State) : JobsFixed s (s.endProgramming p f) := by
  refine ⟨fun k => ?_, by rw [State.endProgramming_frame], by rw [State.endProgramming_frame]⟩
  unfold State.endProgramming
  dsimp only
  generalize hu : ({ s with fuses := _, image := _, programmer := none } : State) = u
  have hs : s.moveOf k = u.moveOf k := by rw [← hu]; rfl
  rw [hs]
  have := u.sealResult_bank p (decide (classify f = .valid p.entry))
  unfold State.moveOf
  generalize (u.sealResult p (decide (classify f = .valid p.entry))).bank = g at this ⊢
  cases this with
  | @row c r d d' e n hen he hst =>
    refine (JobsFixed.setBank (s := u) (b := c) fun r => ?_).moves k
    exact BankState.restate_moveOf (BankState.recOf_some he).1 (by rw [hst]; rfl) (by split <;> rfl)
  | @void c d hen => exact (JobsFixed.setBank (s := u) (x := (u.bank c).setSpare d _) fun r => rfl).moves k
  | stays => rfl

theorem State.loadSlot_jobsFixed (n : FuseNo) (f : FuseBytes) (ht : s.tables) : JobsFixed s (s.loadSlot n f) := by
  have claimed (c : SlotClass) (u : State) (hu : u.tables) : JobsFixed u (u.loadClaim n c) := by
    unfold State.loadClaim
    split
    · exact .refl u
    · exact ⟨fun _ => rfl, rfl, rfl⟩
    · next b r d =>
      have loaded : JobsFixed u (u.setBank b ((u.bank b).loadRow n r d).1) := .setBank fun _ => BankState.loadRow_moveOf (hu b) n d
      exact ⟨loaded.moves, rfl, rfl⟩
    · next b d =>
      have loaded : JobsFixed u (u.setBank b ((u.bank b).loadVoid d).1) := .setBank fun r => BankState.moveOf_congr fun c => by
        rw [BankState.loadVoid_frame]; rfl
      exact ⟨loaded.moves, rfl, rfl⟩
  refine ⟨fun k => ?_, by rw [State.loadSlot_frame], by rw [State.loadSlot_frame]⟩
  unfold State.loadSlot
  rw [State.tryLoadEnd_frame, State.completeSummary_frame]
  exact (claimed _ { s with image := s.image.set n.val (classify f).toImage n.isLt } ht).moves k

/-! ### Every step -/

theorem Shift.keeps_jobs (h : Shift s t) (ht : s.tables) (hs : s.jobsDone) : t.jobsDone := by
  cases h with
  | writes b r c => exact (JobsFixed.mapActive _ (Active.written_job b r c) s).keeps_jobsDone hs
  | grants => exact State.grantMigration_jobs ht hs
  | @endsMainChunk a k ha =>
    have copied := (State.copyChunk_jobsFixed k s).trans (State.closeBank_jobsFixed a.bank _)
    have tables := ((s.copyChunk_tableSteps k).trans (State.closeBank_tableSteps _ a.bank)).keeps_tables ht
    have held : s.hasJob a := .of_active ha
    exact State.afterMainChunk_jobs (a := a.counted _) tables (copied.keeps_jobsFit hs.1) (copied.hasJob held)
  | @endsRecopyChunk a k ha =>
    have copied := (State.copyChunk_jobsFixed k s).trans (State.closeBank_jobsFixed a.bank _)
    have tables := ((s.copyChunk_tableSteps k).trans (State.closeBank_tableSteps _ a.bank)).keeps_tables ht
    have held : s.hasJob a := .of_active ha
    exact State.afterRecopyChunk_jobs (a := a.counted _) tables (copied.keeps_jobsFit hs.1) (copied.hasJob held)
  | @endsFinal a ha =>
    have copied := State.copyFlagged_jobsFixed a.flagged s
    exact State.takeSwitch_jobs ((s.copyFlagged_tableSteps _).keeps_tables ht) (copied.keeps_jobsFit hs.1) (copied.hasJob (.of_active ha))
  | steers b r o => exact State.steerClaim_jobs b r o ht hs
  | releases b r => exact State.serveRelease_jobs b r ht hs
  | seals b r => exact (State.serveSeal_jobsFixed b r s).keeps_jobsDone hs
  | voids b d w => exact (State.serveVoid_jobsFixed b d w s).keeps_jobsDone hs
  | programs f => exact (State.endProgramming_jobsFixed _ f s).keeps_jobsDone hs
  | loads f => exact (State.loadSlot_jobsFixed _ f ht).keeps_jobsDone hs
  | starts =>
    refine JobsFixed.keeps_jobsDone (s := s) ⟨fun k => ?_, ?_, ?_⟩ hs
    all_goals rw [State.tryLoadEnd_frame]; try rfl

/-- A step that keeps the tables and the engine keeps the jobs with them. -/
theorem State.migrationOk_of_parts (htab : s.tableOk → t.tableOk) (heng : s.engineOk → t.engineOk)
    (hjobs : s.tables → s.jobsDone → t.jobsDone) (h : s.migrationOk) : t.migrationOk := by
  obtain ⟨ht, he, hj⟩ := h
  have ht' := htab ht
  exact ⟨ht', heng he, (State.jobsOk_iff ht'.1).mpr (hjobs ht.1 ((State.jobsOk_iff ht.1).mp hj))⟩

theorem Shift.keeps_migrationOk (h : Shift s t) (hs : s.migrationOk) : t.migrationOk :=
  State.migrationOk_of_parts h.keepsSteering.1 h.keeps_engineOk h.keeps_jobs hs

theorem Micro.keeps_migrationOk (h : Micro true false s t) (hs : s.migrationOk) : t.migrationOk :=
  State.migrationOk_of_parts h.keepsSteering.1 h.calm.keeps_engineOk (fun _ => h.calm.jobsFixed.keeps_jobsDone) hs

end

/-- Settles O57: the calm moves leave the claims, the jobs and the records' moves, and each shift keeps them in order. -/
theorem stepKeepsTheEngine : Obligations.StepKeepsTheEngine := fun _ _ h => by
  obtain ⟨-, -, -, -, -, -, -, hengine, hmigration, -, -⟩ := resetSatisfiesTheInvariants
  constructor
  · exact step_keeps_of_path (fun _ _ hm => hm.calm.keeps_engineOk) (fun _ _ hs => hs.keeps_engineOk) (fun _ _ _ => id) (fun _ _ => id)
      (fun _ _ _ _ _ _ => hengine) h
  · exact step_keeps_of_path (fun _ _ hm => hm.keeps_migrationOk) (fun _ _ hs => hs.keeps_migrationOk) (fun _ _ _ => id) (fun _ _ => id)
      (fun _ _ _ _ _ _ => hmigration) h

end

end Sys2Proof.Machine
end

section
/-! The bank units and their refresh state after every step (O56). -/
namespace Sys2Proof.Machine

/-! ### The parts of the invariant of one bank unit -/

/-- What holds of a bank unit whatever order is in progress (Table 6-1, R39, R42, R108, R109, R116, R117). -/
structure BankState.coreOk (x : BankState) : Prop where
  debt : x.debt ≤ 12
  pointer : x.pointer ≤ 4096
  slot : x.slot = none ∨ x.slot = some x.pointer
  refresh : x.inRefresh = (x.slot.isSome != x.service.isSome)
  apart : ¬ (x.slot.isSome = true ∧ x.service.isSome = true)
  revoked : x.revoked = true → x.isOpen = false
  forced : x.forced = true → x.shadow ≠ .claimed .forced

/-- The order in progress stands at the head of the lane: a READ or WRITE of an OPEN bank, a REFRESH of one held by its SWEEP job (R32, R33,
R35). -/
structure BankState.orderOk (x : BankState) : Prop where
  burst : x.burstInProgress = true → x.isOpen = true ∧ x.lane ≠ []
  sweeping : x.inProgress = some .sweeping → x.shadow = .claimed .sweep ∧ x.lane ≠ []

section
variable {x y : BankState}

theorem BankState.unitOk_iff : x.unitOk ↔ x.coreOk ∧ x.orderOk ∧ (x.forced = true → x.isOpen = true → x.burstInProgress = true) := by
  constructor
  · rintro ⟨hd, hp, hs, hr, ha, hb, hsw, hrev, hf, hfo⟩
    exact ⟨⟨hd, hp, hs, hr, ha, hrev, hf⟩, ⟨hb, hsw⟩, hfo⟩
  · rintro ⟨⟨hd, hp, hs, hr, ha, hrev, hf⟩, ⟨hb, hsw⟩, hfo⟩
    exact ⟨hd, hp, hs, hr, ha, hb, hsw, hrev, hf, hfo⟩

theorem BankState.inRefresh_congr (h : y.shadow = x.shadow) : y.inRefresh = x.inRefresh := by
  unfold BankState.inRefresh; rw [h]

theorem BankState.isOpen_congr (h : y.shadow = x.shadow) : y.isOpen = x.isOpen := by
  unfold BankState.isOpen; rw [h]

theorem BankState.burstInProgress_congr (h : y.inProgress = x.inProgress) : y.burstInProgress = x.burstInProgress := by
  unfold BankState.burstInProgress; rw [h]

/-- The invariant looks at the unit alone. -/
theorem BankState.SameUnit.unitOk (h : x.SameUnit y) (hx : x.unitOk) : y.unitOk := by
  obtain ⟨hsh, hl, hip, hrev, hf, -, hp, hd, hs, hsv⟩ := h
  rw [BankState.unitOk_iff] at hx ⊢
  obtain ⟨⟨h1, h2, h3, h4, h5, h6, h7⟩, ⟨h8, h9⟩, h10⟩ := hx
  rw [← BankState.inRefresh_congr hsh] at h4
  rw [← BankState.isOpen_congr hsh] at h6 h8 h10
  rw [← BankState.burstInProgress_congr hip] at h8 h10
  rw [← hsh] at h7 h9
  rw [← hl] at h8 h9
  rw [← hip] at h9
  rw [← hrev] at h6
  rw [← hf] at h7 h10
  rw [← hd] at h1
  rw [← hp] at h2 h3
  rw [← hs] at h3 h4 h5
  rw [← hsv] at h4 h5
  exact ⟨⟨h1, h2, h3, h4, h5, h6, h7⟩, ⟨h8, h9⟩, h10⟩

/-- A bank that no refresh job holds has no slot and no service in progress. -/
theorem BankState.coreOk.idle (h : x.coreOk) (hr : x.inRefresh = false) : x.slot = none ∧ x.service = none := by
  obtain ⟨-, -, -, hx, hno, -, -⟩ := h
  rw [hr] at hx
  generalize x.slot = a at *
  generalize x.service = c at *
  cases a <;> cases c
  case none.none => exact ⟨rfl, rfl⟩
  case some.some => exact absurd ⟨rfl, rfl⟩ hno
  all_goals cases hx

/-- A bank that a refresh job holds has its slot or its service in progress. -/
theorem BankState.coreOk.busy (h : x.coreOk) (hr : x.inRefresh = true) : x.service.isSome = !x.slot.isSome := by
  have hx := h.refresh
  rw [hr] at hx
  generalize x.slot.isSome = a at *
  generalize x.service.isSome = c at *
  revert hx
  revert a c
  decide

/-- An order in progress on a bank held by a refresh job is its REFRESH. -/
theorem BankState.orderOk.sweeping_of_refresh (h : x.orderOk) (hr : x.inRefresh = true) (hp : x.inProgress.isSome = true) :
    x.inProgress = some .sweeping := by
  cases hip : x.inProgress with
  | none => rw [hip] at hp; cases hp
  | some p =>
    cases p with
    | sweeping => rfl
    | burst body =>
      have ho := (h.burst (by unfold BankState.burstInProgress; rw [hip])).1
      unfold BankState.inRefresh at hr
      unfold BankState.isOpen at ho
      cases hs : x.shadow <;> simp_all

/-- On a bank that is neither OPEN nor held by its SWEEP job no order is in progress. -/
theorem BankState.orderOk.none (h : x.orderOk) (ho : x.isOpen = false) (hs : x.shadow ≠ .claimed .sweep) : x.inProgress = none := by
  cases hip : x.inProgress with
  | none => rfl
  | some p =>
    cases p with
    | sweeping => exact absurd (h.sweeping hip).1 hs
    | burst body =>
      have := (h.burst (by unfold BankState.burstInProgress; rw [hip])).1
      rw [ho] at this
      cases this

/-- With no order in progress nothing is asked of the lane. -/
theorem BankState.orderOk_of_none (h : x.inProgress = none) : x.orderOk := by
  refine ⟨fun hb => ?_, fun hs => ?_⟩
  · unfold BankState.burstInProgress at hb; rw [h] at hb; cases hb
  · rw [h] at hs; cases hs

/-- A bank unit without an order in progress is in order unless a forced claim stands on it OPEN. -/
theorem BankState.unitOk_of_none (h : x.coreOk) (hp : x.inProgress = none) (hf : x.forced = true → x.isOpen = false) : x.unitOk := by
  refine BankState.unitOk_iff.mpr ⟨h, BankState.orderOk_of_none hp, fun h1 h2 => ?_⟩
  rw [hf h1] at h2
  cases h2

/-- The bank passes, with no refresh job and no order in progress, into a state that is no refresh job's. -/
theorem BankState.unitOk_setShadow (hx : x.coreOk) (hr : x.inRefresh = false) (hp : x.inProgress = none) {sh : Shadow}
    (hsh : ({ x with shadow := sh } : BankState).inRefresh = false) (ho : ({ x with shadow := sh } : BankState).isOpen = false) :
    ({ x with shadow := sh } : BankState).unitOk := by
  obtain ⟨hslot, hserv⟩ := hx.idle hr
  refine BankState.unitOk_of_none ⟨hx.debt, hx.pointer, hx.slot, ?_, hx.apart, fun _ => ho, fun _ h => ?_⟩ hp fun _ => ho
  · rw [hsh, hslot, hserv]; rfl
  · rw [BankState.inRefresh, h] at hsh
    cases hsh

/-- A refresh job takes the bank (R35, R43, R116). -/
theorem BankState.refreshJob_coreOk (hx : x.coreOk) (hr : x.inRefresh = false) {k : JobKind} (hk : k = .sweep ∨ k = .forced)
    (hf : x.forced = true → k ≠ .forced) : (x.refreshJob k).coreOk := by
  obtain ⟨-, hserv⟩ := hx.idle hr
  refine ⟨hx.debt, hx.pointer, .inr rfl, ?_, ?_, fun _ => rfl, fun h h' => hf h ?_⟩
  · show BankState.inRefresh _ = (true != x.service.isSome)
    rw [hserv]
    unfold BankState.inRefresh
    rcases hk with rfl | rfl <;> rfl
  · show ¬ (true = true ∧ x.service.isSome = true)
    rw [hserv]
    exact fun h => (nomatch h.2)
  · exact Shadow.claimed.inj h'

end

/-! ### All banks -/

section
variable {s t : State} {b : Bank}

theorem State.unitsOk_setBank {x : BankState} (h : ∀ c, c ≠ b → (s.bank c).unitOk) (hx : x.unitOk) : (s.setBank b x).unitsOk := by
  intro c
  rw [State.bank_setBank]
  split
  · exact hx
  · next hc => exact h c hc

/-- Every bank's unit stays. -/
def UnitsFixed (s t : State) : Prop := ∀ b, (s.bank b).SameUnit (t.bank b)

theorem UnitsFixed.keeps (h : UnitsFixed s t) (hs : s.unitsOk) : t.unitsOk := fun b => (h b).unitOk (hs b)

theorem UnitsFixed.of_bank (h : ∀ b, t.bank b = s.bank b) : UnitsFixed s t := fun b => by rw [h b]; exact .refl _

theorem UnitsFixed.trans {u : State} (h : UnitsFixed s t) (h' : UnitsFixed t u) : UnitsFixed s u := fun b => (h b).trans (h' b)

theorem State.foldl_unitsFixed {f : State → Bank → State} (h : ∀ s b, UnitsFixed s (f s b)) (l : List Bank) (s : State) :
    UnitsFixed s (l.foldl f s) := by
  induction l generalizing s with
  | nil => exact .of_bank fun _ => rfl
  | cons b l ih => exact (h s b).trans (ih _)

theorem State.nameNeed_unitsFixed (b : Bank) (s : State) : UnitsFixed s (s.nameNeed b) := by
  unfold State.nameNeed
  split
  · intro c
    rw [State.bank_setBank]
    split
    · next hc => rw [hc, ]; exact ⟨rfl, rfl, rfl, rfl, rfl, rfl, rfl, rfl, rfl, rfl⟩
    · rw [State.handNeed_bank]; exact .refl _
  · exact .of_bank fun _ => rfl

theorem State.tryLinkUp_unitsFixed (s : State) : UnitsFixed s s.tryLinkUp := by
  unfold State.tryLinkUp State.linkUp
  split
  · exact State.foldl_unitsFixed (fun s b => s.nameNeed_unitsFixed b) allBanks { s with link := .up, outbound := s.outbound ++ [.ready] }
  · exact .of_bank fun _ => rfl

/-- A forced claim granted by revocation (R40, R43), or left to wait behind the order in progress. -/
theorem State.revokeIfForced_unitsOk (h : ∀ c, c ≠ b → (s.bank c).unitOk) (hc : (s.bank b).coreOk) (ho : (s.bank b).orderOk) :
    (s.revokeIfForced b).unitsOk := by
  unfold State.revokeIfForced
  split
  · next r p hsh hf hip =>
    have hr : ({ s.bank b with revoked := true, forced := false } : BankState).inRefresh = false := by
      unfold BankState.inRefresh; rw [hsh]; rfl
    have core : ({ s.bank b with revoked := true, forced := false, shadow := .closed } : BankState).coreOk := by
      obtain ⟨hslot, hserv⟩ := hc.idle hr
      exact ⟨hc.debt, hc.pointer, hc.slot, by rw [hslot, hserv]; rfl, hc.apart, fun _ => rfl, nofun⟩
    have revoked : (BankState.refreshJob .forced { s.bank b with revoked := true, forced := false }).unitOk :=
      BankState.unitOk_of_none (BankState.refreshJob_coreOk core rfl (.inr rfl) nofun) hip nofun
    have banks (c : Bank) : (s.revoke b r p).bank c
        = ((s.port [.precharge b p]).setBank b (BankState.refreshJob .forced { s.bank b with revoked := true, forced := false })).bank c := by
      unfold State.revoke
      dsimp only
      rw [State.raise_bank, State.handLost_bank]
    intro c
    rw [banks]
    exact State.unitsOk_setBank (s := s.port [.precharge b p]) h revoked c
  · next hno =>
    intro c
    by_cases hcb : c = b
    · subst hcb
      refine BankState.unitOk_iff.mpr ⟨hc, ho, fun hf hop => ?_⟩
      have hnone := hno
      cases hsh : (s.bank c).shadow with
      | opened r p =>
        cases hip : (s.bank c).inProgress with
        | none => exact absurd hip (hno r p hsh hf)
        | some q =>
          cases q with
          | burst body => unfold BankState.burstInProgress; rw [hip]
          | sweeping => rw [(ho.sweeping hip).1] at hsh; cases hsh
      | closed | claimed k => rw [BankState.isOpen, hsh] at hop; cases hop
    · exact h c hcb

/-- A bank without an order in progress closed for the link reset (R44, R46). -/
theorem State.closeForReset_unitsOk (h : ∀ c, c ≠ b → (s.bank c).unitOk) (hc : (s.bank b).coreOk) (hip : (s.bank b).inProgress = none) :
    (s.closeForReset b).unitsOk := by
  unfold State.closeForReset
  split
  · next r p hsh =>
    refine State.unitsOk_setBank (s := s.port [.precharge b p]) h ?_
    have hr : (s.bank b).inRefresh = false := by unfold BankState.inRefresh; rw [hsh]; rfl
    exact BankState.unitOk_setShadow (sh := .closed) hc hr hip rfl rfl
  · next hsh =>
    refine State.unitsOk_setBank h ?_
    have ho : (s.bank b).isOpen = false := by
      unfold BankState.isOpen
      cases hs : (s.bank b).shadow with
      | opened r p => exact absurd hs (hsh r p)
      | closed | claimed k => rfl
    exact BankState.unitOk_of_none (x := s.bank b) hc hip fun _ => ho

/-- What the state an order has left leads to (R40, R41, R44). -/
theorem State.settle_unitsOk (h : ∀ c, c ≠ b → (s.bank c).unitOk) (hc : (s.bank b).coreOk) (hip : (s.bank b).inProgress = none) :
    (s.settle b).unitsOk := by
  unfold State.settle
  split
  · exact (State.tryLinkUp_unitsFixed _).keeps (State.closeForReset_unitsOk h hc hip)
  · exact State.revokeIfForced_unitsOk h hc (BankState.orderOk_of_none hip)

/-- The end of the order at the head of a lane (R30). -/
theorem State.endOrder_unitsOk (h : ∀ c, c ≠ b → (s.bank c).unitOk) (hc : (s.bank b).coreOk) (hl : (s.bank b).lane ≠ []) (body : ReplyBody) :
    (s.endOrder b body).unitsOk := by
  unfold State.endOrder
  split
  · next hnil => exact absurd hnil hl
  · next o rest hlane =>
    refine State.settle_unitsOk (fun c hcb => ?_) ?_ ?_
    · rw [State.bank_setBank_of_ne _ _ hcb, State.handReply_bank]
      exact h c hcb
    · rw [State.bank_setBank_self]
      exact ⟨hc.debt, hc.pointer, hc.slot, hc.refresh, hc.apart, hc.revoked, hc.forced⟩
    · rw [State.bank_setBank_self]

/-- The same, on a bank that has been set. -/
theorem State.endOrder_setBank_unitsOk {x : BankState} (h : ∀ c, c ≠ b → (s.bank c).unitOk) (hc : x.coreOk) (hl : x.lane ≠ [])
    (body : ReplyBody) : ((s.setBank b x).endOrder b body).unitsOk := by
  refine State.endOrder_unitsOk (fun c hcb => ?_) ?_ ?_ body
  · rw [State.bank_setBank_of_ne _ _ hcb]; exact h c hcb
  · rw [State.bank_setBank_self]; exact hc
  · rw [State.bank_setBank_self]; exact hl

theorem State.unitsOk.core (h : s.unitsOk) (b : Bank) : (s.bank b).coreOk := (BankState.unitOk_iff.mp (h b)).1

theorem State.unitsOk.order (h : s.unitsOk) (b : Bank) : (s.bank b).orderOk := (BankState.unitOk_iff.mp (h b)).2.1

theorem State.unitsOk.others (h : s.unitsOk) (b : Bank) : ∀ c, c ≠ b → (s.bank c).unitOk := fun c _ => h c

/-! ### The head of a lane and the arbiter -/

/-- An order that may begin stands at the head of the lane while none is in progress, and no forced claim stands on the bank OPEN. -/
theorem BankState.beginable_eq_some {x : BankState} {op : BankOp} (h : x.beginable = some op) :
    x.inProgress = none ∧ x.lane ≠ [] ∧ (x.forced = true → x.isOpen = false) := by
  unfold BankState.beginable at h
  split at h
  · next o rest hip hl =>
    refine ⟨hip, by rw [hl]; exact nofun, fun hf => ?_⟩
    split at h
    · cases h
    · next hno =>
      unfold BankState.isOpen
      cases hs : x.shadow with
      | opened r p => exact absurd hf (hno r p hs)
      | closed | claimed k => rfl
  · cases h

/-- A READ or WRITE put in progress on an OPEN bank (R32, R33). -/
theorem BankState.burst_unitOk {x : BankState} {r : LRow} {p : PRow} {op : BankOp} (hx : x.unitOk) (h : x.beginable = some op)
    (hs : x.shadow = .opened r p) (body : ReplyBody) : ({ x with inProgress := some (.burst body) } : BankState).unitOk := by
  obtain ⟨-, hl, -⟩ := BankState.beginable_eq_some h
  have hc := (BankState.unitOk_iff.mp hx).1
  exact BankState.unitOk_iff.mpr ⟨⟨hc.debt, hc.pointer, hc.slot, hc.refresh, hc.apart, hc.revoked, hc.forced⟩,
    ⟨fun _ => ⟨BankState.isOpen_of_opened hs, hl⟩, nofun⟩, fun _ _ => rfl⟩

/-- A CLOSED bank is OPEN or held by a refresh job no more than a CLAIMED one of the engine is. -/
theorem BankState.not_refresh_of_closed {x : BankState} (h : x.shadow = .closed) : x.inRefresh = false := by
  unfold BankState.inRefresh; rw [h]; rfl

/-- The forced claim granted on a CLOSED bank (R116). -/
theorem State.grantForced_unitsOk (h : s.unitsOk) (hs : (s.bank b).shadow = .closed) (hip : (s.bank b).inProgress = none) :
    (s.grantForced b).unitsOk := by
  refine State.unitsOk_setBank (h.others b) (BankState.unitOk_of_none (BankState.refreshJob_coreOk ?_ ?_ (.inr rfl) nofun) hip nofun)
  · have hc := h.core b
    exact ⟨hc.debt, hc.pointer, hc.slot, hc.refresh, hc.apart, hc.revoked, nofun⟩
  · exact BankState.not_refresh_of_closed hs

/-- An OPEN granted and served on a CLOSED bank (R31). -/
theorem State.serveOpen_unitsOk (h : s.unitsOk) (hs : (s.bank b).shadow = .closed) (hl : (s.bank b).lane ≠ []) (r : LRow) :
    (s.serveOpen b r).unitsOk := by
  have hc := h.core b
  obtain ⟨hslot, hserv⟩ := hc.idle (BankState.not_refresh_of_closed hs)
  unfold State.serveOpen
  dsimp only
  have activated := (State.activate_moves (calm := true) (quiet := true) b ((s.bank b).lookupRow r)
    (s.setBank b { s.bank b with revoked := false })).quiet
  generalize State.activate b ((s.bank b).lookupRow r) (s.setBank b { s.bank b with revoked := false }) = u at activated ⊢
  have unit := activated.unit b
  rw [State.bank_setBank_self] at unit
  refine State.endOrder_setBank_unitsOk (fun c hcb => ?_) ⟨?_, ?_, ?_, ?_, ?_, ?_, fun _ => ?_⟩ ?_ _
  · have := activated.unit c
    rw [State.bank_setBank_of_ne _ _ hcb] at this
    exact this.unitOk (h c)
  · exact unit.debt ▸ hc.debt
  · exact unit.pointer ▸ hc.pointer
  · exact .inl (unit.slot.trans hslot)
  · show false = ((u.bank b).slot.isSome != (u.bank b).service.isSome)
    rw [unit.slot.trans hslot, unit.service.trans hserv]; rfl
  · show ¬ ((u.bank b).slot.isSome = true ∧ (u.bank b).service.isSome = true)
    rw [unit.slot.trans hslot]
    exact fun hx => (nomatch hx.1)
  · show (u.bank b).revoked = true → _
    rw [unit.revoked]
    exact nofun
  · exact nofun
  · show (u.bank b).lane ≠ []
    rw [unit.lane]
    exact hl

/-- The lane's candidate stands at the head of the lane. -/
theorem BankState.lane_of_candidate {x : BankState} {op : BankOp} (h : x.laneCandidate = some op) : x.lane ≠ [] := by
  unfold BankState.laneCandidate at h
  split at h
  · next hl => rw [hl]; exact nofun
  · cases h

/-- The lane's OPEN or REFRESH granted on a CLOSED bank (R31, R35). -/
theorem State.grantLane_unitsOk (h : s.unitsOk) (hs : (s.bank b).shadow = .closed) (hl : (s.bank b).lane ≠ []) (op : BankOp) (w : Bool) :
    (s.grantLane b op w).unitsOk := by
  unfold State.grantLane
  dsimp only
  have counted (n : Nat) : (s.setBank b { s.bank b with passover := n, claimNew := false }).unitsOk := State.unitsOk_setBank (h.others b) (h b)
  split
  · refine State.serveOpen_unitsOk (counted _) ?_ ?_ _
    all_goals rw [State.bank_setBank_self]; assumption
  · refine State.unitsOk_setBank (h.others b) ?_
    have hc := h.core b
    obtain ⟨hslot, hserv⟩ := hc.idle (BankState.not_refresh_of_closed hs)
    refine BankState.unitOk_iff.mpr ⟨⟨hc.debt, hc.pointer, .inr rfl, ?_, ?_, fun _ => rfl, fun _ => nofun⟩,
      ⟨nofun, fun _ => ⟨rfl, hl⟩⟩, fun _ => nofun⟩
    · show true = (true != (s.bank b).service.isSome)
      rw [hserv]; rfl
    · show ¬ (true = true ∧ (s.bank b).service.isSome = true)
      rw [hserv]
      exact fun hx => (nomatch hx.2)
  all_goals exact h

/-! ### The jobs of the migration engine -/

/-- A bank held by a migration job is neither OPEN nor held by a refresh job, and has no order in progress. -/
theorem BankState.calm_of_inMigration {x : BankState} (hx : x.unitOk) (h : x.inMigration = true) :
    x.isOpen = false ∧ x.inRefresh = false ∧ x.inProgress = none := by
  have claimed : ∃ k, x.shadow = .claimed k ∧ k ≠ .sweep ∧ k ≠ .forced := by
    unfold BankState.inMigration at h
    simp only [Bool.or_eq_true, decide_eq_true_eq] at h
    rcases h with (h | h) | h <;> exact ⟨_, h, nofun, nofun⟩
  obtain ⟨k, hs, h1, h2⟩ := claimed
  have ho : x.isOpen = false := by unfold BankState.isOpen; rw [hs]
  refine ⟨ho, ?_, (BankState.unitOk_iff.mp hx).2.1.none ho ?_⟩
  · unfold BankState.inRefresh
    rw [hs]
    simp [h1, h2]
  · rw [hs]
    intro hk
    exact h1 (Shadow.claimed.inj hk)

/-- A migration job ends: its bank is CLOSED (R36). -/
theorem State.closeBank_unitsOk (h : s.unitsOk) (hm : (s.bank b).inMigration = true) : (s.closeBank b).unitsOk := by
  obtain ⟨-, hr, hip⟩ := BankState.calm_of_inMigration (h b) hm
  exact State.unitsOk_setBank (h.others b) (BankState.unitOk_setShadow (h.core b) hr hip rfl rfl)

theorem Moves.unitsOk {calm : Bool} (h : Moves calm true s t) (hs : s.unitsOk) : t.unitsOk :=
  UnitsFixed.keeps (fun b => h.quiet.unit b) hs

theorem Moves.inMigration {calm : Bool} (h : Moves calm true s t) (b : Bank) : (t.bank b).inMigration = (s.bank b).inMigration :=
  BankState.inMigration_congr (h.quiet.unit b).shadow

theorem State.takeSwitch_unitsOk {a : Active} (h : s.unitsOk) (hm : (s.bank a.bank).inMigration = true) : (s.takeSwitch a).unitsOk := by
  have switched := State.switchRecord_moves (quiet := true) s a
  have closed := State.closeBank_unitsOk (switched.unitsOk h) ((switched.inMigration a.bank).trans hm)
  exact Moves.unitsOk (State.takeJob_moves (quiet := true) _) closed

theorem State.switchJob_unitsOk {a : Active} (h : s.unitsOk) (hm : (s.bank a.bank).inMigration = true) : (s.switchJob a).unitsOk := by
  unfold State.switchJob
  split
  · exact State.takeSwitch_unitsOk h hm
  · exact Moves.unitsOk (State.checkFailed_moves (quiet := true) ..) (State.closeBank_unitsOk h hm)

/-- The migration claim granted on a CLOSED bank (R36). -/
theorem State.grantMigration_unitsOk (h : s.unitsOk) (hs : (s.bank b).shadow = .closed) (hip : (s.bank b).inProgress = none) (k : ClaimKind) :
    (s.grantMigration b k).unitsOk := by
  have hr := BankState.not_refresh_of_closed hs
  have held (sh : Shadow) (hsh : ({ s.bank b with shadow := sh } : BankState).inRefresh = false)
      (ho : ({ s.bank b with shadow := sh } : BankState).isOpen = false) :
      (s.setBank b { s.bank b with migClaim := none, claimNew := false, passover := 0, shadow := sh }).unitsOk :=
    State.unitsOk_setBank (h.others b) (BankState.unitOk_setShadow (sh := sh) (h.core b) hr hip hsh ho)
  have removed : (s.setBank b { s.bank b with migClaim := none, claimNew := false, passover := 0 }).unitsOk :=
    State.unitsOk_setBank (h.others b) (h b)
  unfold State.grantMigration
  dsimp only
  split
  · exact held (.claimed .copy) rfl rfl
  · exact held (.claimed .final) rfl rfl
  · split
    · next a ha =>
      split
      · next hb =>
        refine State.switchJob_unitsOk (held (.claimed .switch) rfl rfl) ?_
        rw [hb, State.bank_setBank_self]
        rfl
      · exact removed
    · exact removed

theorem State.arbiterChoice_unitsOk (h : s.unitsOk) (b : Bank) (early : Bool) : (s.arbiterChoice b early).unitsOk := by
  unfold State.arbiterChoice
  dsimp only
  split
  · next hc =>
    obtain ⟨hs, hip⟩ := hc
    split
    · next c hch =>
      cases c with
      | forced => exact State.grantForced_unitsOk h hs hip
      | migration k => exact State.grantMigration_unitsOk h hs hip k
      | lane op =>
        refine State.grantLane_unitsOk h hs (BankState.lane_of_candidate (op := op) ?_) op _
        unfold BankState.choose at hch
        split at hch
        · cases hch
        · split at hch
          · split at hch <;> cases hch
            assumption
          · cases hch
          · cases hch
            assumption
          · cases hch
    · exact h
  · exact h

/-! ### Ticks, slots and target service -/

/-- A tick at a bank (R112 to R115). -/
theorem State.tickBank_unitsOk (h : s.unitsOk) (b : Bank) : (s.tickBank b).unitsOk := by
  have hands {t : State} {c : Bool} (ht : t.unitsOk) : (if c then t.handNeed b else t).unitsOk := by
    split
    · exact UnitsFixed.keeps (.of_bank fun c => State.handNeed_bank ..) ht
    · exact ht
  unfold State.tickBank
  dsimp only
  split
  · next hd =>
    have hd : (s.bank b).debt < 12 := hd
    obtain ⟨hc, ho, hf⟩ := BankState.unitOk_iff.mp (h b)
    refine hands ?_
    split
    · next hforces =>
      refine State.revokeIfForced_unitsOk (b := b) (fun c hcb => ?_) ?_ ?_
      · rw [State.bank_setBank_of_ne _ _ hcb]; exact h c
      · rw [State.bank_setBank_self]
        refine ⟨hd, hc.pointer, hc.slot, hc.refresh, hc.apart, hc.revoked, fun _ => ?_⟩
        unfold BankState.forces at hforces
        simp only [Bool.and_eq_true, decide_eq_true_eq] at hforces
        exact hforces.2
      · rw [State.bank_setBank_self]
        exact ⟨ho.burst, ho.sweeping⟩
    · next hforces =>
      refine State.unitsOk_setBank (h.others b) (BankState.unitOk_iff.mpr ⟨⟨hd, hc.pointer, hc.slot, hc.refresh, hc.apart, hc.revoked, ?_⟩,
        ⟨ho.burst, ho.sweeping⟩, ?_⟩)
      all_goals rw [Bool.eq_false_of_not_eq_true hforces, Bool.or_false]
      · exact hc.forced
      · exact hf
  · exact h

/-- The next aggressor taken leaves a service in progress one, and none as none (R101). -/
theorem BankState.takeTarget_service_isSome (reach : Nat) (x : BankState) : (x.takeTarget reach).service.isSome = x.service.isSome := by
  unfold BankState.takeTarget
  split
  · next hv _ => rw [hv]; split <;> rfl
  · next hv _ => rw [hv]; rfl
  · rfl

theorem BankState.takeTarget_unitOk (reach : Nat) {x : BankState} (hx : x.unitOk) : (x.takeTarget reach).unitOk := by
  have hsome := BankState.takeTarget_service_isSome reach x
  rw [BankState.takeTarget_frame] at hsome ⊢
  obtain ⟨hc, ho, hf⟩ := BankState.unitOk_iff.mp hx
  refine BankState.unitOk_iff.mpr ⟨⟨hc.debt, hc.pointer, hc.slot, ?_, ?_, hc.revoked, hc.forced⟩, ⟨ho.burst, ho.sweeping⟩, hf⟩
  · exact hc.refresh.trans (by rw [hsome])
  · rw [hsome]; exact hc.apart

theorem State.serviceOne_unitsOk (h : s.unitsOk) (b : Bank) : (s.serviceOne b).unitsOk := by
  unfold State.serviceOne
  split
  · exact State.unitsOk_setBank (s := s.port _) (h.others b) (BankState.takeTarget_unitOk _ (h b))
  · exact h

/-- The aggressors serviced leave the service in progress. -/
theorem State.serviceMany_unitsOk (b : Bank) (n : Nat) (h : s.unitsOk) : (State.serviceMany b n s).unitsOk
    ∧ ((State.serviceMany b n s).bank b).service.isSome = (s.bank b).service.isSome := by
  induction n generalizing s with
  | zero => exact ⟨h, rfl⟩
  | succ n ih =>
    obtain ⟨hu, hs⟩ := ih (State.serviceOne_unitsOk h b)
    refine ⟨hu, hs.trans ?_⟩
    unfold State.serviceOne
    split
    · rw [State.bank_setBank_self, BankState.takeTarget_service_isSome]
    · rfl

/-- The job after a target service (R116, R117). -/
theorem State.afterService_unitsOk (h : s.unitsOk) (hv : (s.bank b).service.isSome = true) : (s.afterService b).unitsOk := by
  obtain ⟨hc, ho, hf⟩ := BankState.unitOk_iff.mp (h b)
  have hslot : (s.bank b).slot = none := by
    have := hc.apart
    rw [hv] at this
    cases hs : (s.bank b).slot with
    | none => rfl
    | some k => rw [hs] at this; exact absurd ⟨rfl, rfl⟩ this
  have hr : (s.bank b).inRefresh = true := by rw [hc.refresh, hslot, hv]; rfl
  have closed : ({ s.bank b with service := none, shadow := .closed } : BankState).coreOk :=
    ⟨hc.debt, hc.pointer, hc.slot, by rw [hslot]; rfl, fun hx => (nomatch hx.2), fun _ => rfl, fun _ => nofun⟩
  unfold State.afterService
  dsimp only
  split
  · split
    · next hip =>
      exact State.endOrder_setBank_unitsOk (h.others b) closed (ho.sweeping (ho.sweeping_of_refresh hr hip)).2 _
    · next hip =>
      exact State.unitsOk_setBank (h.others b) (BankState.unitOk_of_none closed (by simpa using hip) fun _ => rfl)
  · next hsh =>
    have hip : (s.bank b).inProgress = none := ho.none (by unfold BankState.isOpen; rw [hsh]) (by rw [hsh]; nofun)
    split
    · exact State.unitsOk_setBank (h.others b) (BankState.unitOk_of_none closed hip fun _ => rfl)
    · refine State.unitsOk_setBank (h.others b) (BankState.unitOk_of_none ⟨hc.debt, hc.pointer, .inr rfl, hr, fun hx => (nomatch hx.2),
        hc.revoked, hc.forced⟩ hip fun hfd => ?_)
      exact absurd hsh (hc.forced hfd)
  · next h1 h2 =>
    unfold BankState.inRefresh at hr
    simp only [Bool.or_eq_true, decide_eq_true_eq] at hr
    rcases hr with hr | hr
    · exact absurd hr h1
    · exact absurd hr h2

/-- The completion of the slot in progress (R109, R110). -/
theorem State.completeSlot_unitsOk {k : Nat} (h : s.unitsOk) (hk : (s.bank b).slot = some k) : (s.completeSlot b k).unitsOk := by
  obtain ⟨hc, ho, hf⟩ := BankState.unitOk_iff.mp (h b)
  have hptr : k = (s.bank b).pointer := by
    rcases hc.slot with hs | hs
    · rw [hk] at hs; cases hs
    · rw [hk] at hs; exact Option.some.inj hs
  have hr : (s.bank b).inRefresh = true := by
    have h1 := hc.refresh
    have h2 := hc.apart
    rw [hk] at h1 h2
    rw [h1]
    simp at h2 ⊢
    simp [h2]
  have begun (v : Service) : ({ (s.bank b).slotDone s.settings.urgentLevel k with service := some v } : BankState).unitOk := by
    refine BankState.unitOk_iff.mpr ⟨⟨?_, ?_, .inl rfl, hr, fun hx => (nomatch hx.1), hc.revoked, hc.forced⟩, ⟨ho.burst, ho.sweeping⟩, hf⟩
    · exact (Nat.sub_le _ _).trans hc.debt
    · have hle := hc.pointer
      show (if k = 4096 then 0 else k + 1) ≤ 4096
      split <;> omega
  unfold State.completeSlot State.beginService
  dsimp only
  rw [State.bank_setBank_self, State.setBank_setBank]
  have units := State.unitsOk_setBank (s := s.port ((slotRows k).map (.refreshRow b))) (h.others b)
    (BankState.takeTarget_unitOk s.settings.reach (begun { left := s.settings.targetsPerRef, current := none }))
  split
  · exact units
  · refine State.afterService_unitsOk units ?_
    rw [State.bank_setBank_self, BankState.takeTarget_service_isSome]
    rfl

theorem State.endService_unitsOk (h : s.unitsOk) (b : Bank) : (s.endService b).unitsOk := by
  unfold State.endService
  split
  · exact h
  · next v hv =>
    obtain ⟨hu, hs⟩ := State.serviceMany_unitsOk b (v.left + 1) h
    exact State.afterService_unitsOk hu (by rw [hs, hv]; rfl)

/-! ### The intake -/

/-- An order accepted joins a lane or the report lane (R55). -/
theorem State.acceptOrder_unitsOk (h : s.unitsOk) (o : Order) : (s.acceptOrder o).unitsOk := by
  cases o with
  | bank t b op =>
    refine State.unitsOk_setBank (s := { s with held := t :: s.held }) (h.others b) ?_
    obtain ⟨hc, ho, hf⟩ := BankState.unitOk_iff.mp (h b)
    have joined : (s.bank b).lane ++ [LaneOrder.mk t op] ≠ [] := by simp
    exact BankState.unitOk_iff.mpr ⟨⟨hc.debt, hc.pointer, hc.slot, hc.refresh, hc.apart, hc.revoked, hc.forced⟩,
      ⟨fun hb => ⟨(ho.burst hb).1, joined⟩, fun hs => ⟨(ho.sweeping hs).1, joined⟩⟩, hf⟩
  | report t b r k => exact h

theorem State.takeOrder_unitsOk (h : s.unitsOk) (k t : Byte) (l : List Byte) : (s.takeOrder k t l).unitsOk := by
  unfold State.takeOrder
  split
  · unfold State.rejectOrder
    dsimp only
    split <;> exact h
  · exact State.acceptOrder_unitsOk h _
  · exact h

/-- A bank unit told of the link reset (R44): its lane holds nothing behind a READ or WRITE in progress. -/
theorem BankState.linkReset_parts {x : BankState} (hx : x.unitOk) : x.linkReset.unitOk := by
  obtain ⟨hc, ho, hf⟩ := BankState.unitOk_iff.mp hx
  unfold BankState.linkReset
  split
  · next body hip =>
    have hb : x.burstInProgress = true := by unfold BankState.burstInProgress; rw [hip]
    obtain ⟨hop, hl⟩ := ho.burst hb
    refine BankState.unitOk_iff.mpr ⟨⟨hc.debt, hc.pointer, hc.slot, hc.refresh, hc.apart, nofun, hc.forced⟩, ⟨fun _ => ⟨hop, ?_⟩, ?_⟩, hf⟩
    · simpa using hl
    · intro hs
      have hs : x.inProgress = some .sweeping := hs
      rw [hip] at hs
      cases hs
  · next hip =>
    refine BankState.unitOk_of_none ⟨hc.debt, hc.pointer, hc.slot, hc.refresh, hc.apart, nofun, hc.forced⟩ rfl fun _ => ?_
    show x.isOpen = false
    unfold BankState.isOpen
    rw [(ho.sweeping hip).1]
  · next hip =>
    refine BankState.unitOk_of_none ⟨hc.debt, hc.pointer, hc.slot, hc.refresh, hc.apart, nofun, hc.forced⟩ hip fun hfd => ?_
    show x.isOpen = false
    refine Bool.eq_false_of_not_eq_true fun hop => ?_
    have := hf hfd hop
    unfold BankState.burstInProgress at this
    rw [hip] at this
    cases this

theorem State.resetBank_unitsOk (h : s.unitsOk) (b : Bank) : (s.resetBank b).unitsOk := by
  have told : (s.setBank b (s.bank b).linkReset).unitsOk := State.unitsOk_setBank (h.others b) (BankState.linkReset_parts (h b))
  unfold State.resetBank
  dsimp only
  split
  · next hip => exact State.closeForReset_unitsOk (told.others b) (told.core b) hip
  · exact told

theorem State.foldl_unitsOk {f : State → Bank → State} (hf : ∀ s b, s.unitsOk → (f s b).unitsOk) (l : List Bank) (h : s.unitsOk) :
    (l.foldl f s).unitsOk := by
  induction l generalizing s with
  | nil => exact h
  | cons b l ih => exact ih (hf s b h)

theorem State.takeLinkReset_unitsOk (h : s.unitsOk) (sending : Bool) : (s.takeLinkReset sending).unitsOk := by
  unfold State.takeLinkReset
  split
  · refine (State.tryLinkUp_unitsFixed _).keeps (State.foldl_unitsOk (fun _ b hs => State.resetBank_unitsOk hs b) _ ?_)
    rw [State.completeSending_frame]
    exact h
  · exact h

theorem State.takeFrame_unitsOk (h : s.unitsOk) (f : List Byte) : (s.takeFrame f).unitsOk := by
  unfold State.takeFrame
  split
  · exact h
  · split
    · exact State.takeLinkReset_unitsOk h _
    · split
      · exact State.takeOrder_unitsOk h _ _ _
      · split <;> exact h

theorem State.takeWaiting_unitsOk (l : List (List Byte)) (h : s.unitsOk) : (State.takeWaiting l s).unitsOk := by
  induction l generalizing s with
  | nil => exact h
  | cons f l ih =>
    unfold State.takeWaiting
    split
    · exact h
    · exact ih (State.takeFrame_unitsOk h f)

/-! ### Every step -/

/-- A REPORT taken leaves the bank units. -/
theorem State.takeReport_quiet (b : Bank) (r : LRow) (k : ReportKind) (s : State) : Quiet s (s.takeReport b r k) := by
  obtain ⟨u, v, hu, hv, ht⟩ := State.takeReport_moves (calm := true) (quiet := true) b r k s
  refine hu.quiet.trans (Quiet.trans ?_ ht.quiet)
  rcases hv with rfl | ⟨b', r', rfl⟩
  · exact .refl _
  · exact (State.steerClaim_moves (quiet := true) b' r' .auto u).quiet

/-- A request served leaves the bank units. -/
theorem State.serve_quiet (c : Call) (s : State) (h : ∀ i v, c = .set i v → i.inRange v = true) : Quiet s (s.serve c).1 := by
  cases hc : c.steers with
  | false => exact (State.serve_moves (calm := true) (quiet := true) s h hc).quiet
  | true =>
    cases c with
    | steer b r =>
      rw [show (s.serve (.steer b r)).1 = (s.steerClaim b r .managed).1 from State.serveSteer_fst b r s]
      exact (State.steerClaim_moves (quiet := true) b r .managed s).quiet
    | release b r => exact (State.serveRelease_moves (quiet := true) b r s).quiet
    | void b d w => exact (State.serveVoid_moves (quiet := true) b d w s).quiet
    | status | lookup _ _ | list _ | bank _ | suspects | forget _ _ | forgetAll | fuse _ | set _ _ | get _ | noticeTop | noticeAck _ | mask _ _ => cases hc
    | _ => exact (State.serveSeal_moves (quiet := true) _ _ s).quiet -- SEAL

theorem Quiet.unitsOk (h : Quiet s t) (hs : s.unitsOk) : t.unitsOk := UnitsFixed.keeps h.unit hs

/-- The load's end leaves the banks. -/
theorem State.tryLoadEnd_unitsOk (h : s.unitsOk) : s.tryLoadEnd.unitsOk := by
  rw [State.tryLoadEnd_frame]; exact h

theorem Change.keeps_unitsOk (h : Change s t) (hs : s.unitsOk) : t.unitsOk := by
  cases h with
  | stays => exact hs
  | asks => exact hs
  | arrives f =>
    unfold State.arrive
    split
    · exact hs
    · split
      · exact hs
      · exact State.takeFrame_unitsOk hs f
  | resetsLink rest sending =>
    unfold State.arriveLinkReset
    split
    · exact hs
    · split
      · exact hs
      · exact State.takeLinkReset_unitsOk hs sending
  | sends =>
    unfold State.sendHead
    split
    · exact hs
    · refine State.takeWaiting_unitsOk _ ?_
      rw [State.freeTag_frame]
      exact hs
  | takesReport h =>
    refine UnitsFixed.keeps (.of_bank fun c => State.handReply_bank ..) ?_
    exact (State.takeReport_quiet _ _ _ s).unitsOk hs
  | @answers b op body h => exact State.endOrder_unitsOk (hs.others b) (hs.core b) (BankState.beginable_eq_some h).2.1 body
  | @reads b c r p h hsh => exact State.unitsOk_setBank (s := s.port _) (hs.others b) (BankState.burst_unitOk (hs b) h hsh _)
  | @writes b c v r p h hsh => exact State.unitsOk_setBank (s := State.noteWrite b r c _) (hs.others b) (BankState.burst_unitOk (hs b) h hsh _)
  | @closesOpen b r p h hsh =>
    obtain ⟨hip, hl, -⟩ := BankState.beginable_eq_some h
    have hr : (s.bank b).inRefresh = false := by unfold BankState.inRefresh; rw [hsh]; rfl
    have closed := BankState.unitOk_setShadow (sh := .closed) (hs.core b) hr hip rfl rfl
    exact State.endOrder_setBank_unitsOk (s := s.port _) (hs.others b) (BankState.unitOk_iff.mp closed).1 hl _
  | @closesOther b h ho =>
    obtain ⟨-, hl, -⟩ := BankState.beginable_eq_some h
    have hc := hs.core b
    have cleared : ({ s.bank b with revoked := false } : BankState).coreOk :=
      ⟨hc.debt, hc.pointer, hc.slot, hc.refresh, hc.apart, nofun, hc.forced⟩
    exact State.endOrder_setBank_unitsOk (hs.others b) cleared hl _
  | @completes b body h =>
    refine State.endOrder_unitsOk (hs.others b) (hs.core b) ((hs.order b).burst ?_).2 body
    unfold BankState.burstInProgress
    rw [h]
  | chooses b early => exact State.arbiterChoice_unitsOk hs b early
  | @endsMainChunk a k ha hsh =>
    have copied := State.copyChunk_moves (quiet := true) s k
    have hm : (s.bank a.bank).inMigration = true := by unfold BankState.inMigration; rw [hsh]; rfl
    exact Moves.unitsOk (State.afterMainChunk_moves (quiet := true) ..)
      (State.closeBank_unitsOk (copied.unitsOk hs) ((copied.inMigration _).trans hm))
  | @endsRecopyChunk a k ha hsh =>
    have copied := State.copyChunk_moves (quiet := true) s k
    have hm : (s.bank a.bank).inMigration = true := by unfold BankState.inMigration; rw [hsh]; rfl
    exact Moves.unitsOk (State.afterRecopyChunk_moves (quiet := true) ..)
      (State.closeBank_unitsOk (copied.unitsOk hs) ((copied.inMigration _).trans hm))
  | @endsFinal a ha hsh =>
    have copied := State.copyFlagged_moves (quiet := true) s a.flagged
    have hm : (s.bank a.bank).inMigration = true := by unfold BankState.inMigration; rw [hsh]; rfl
    exact State.takeSwitch_unitsOk (copied.unitsOk hs) ((copied.inMigration _).trans hm)
  | ticks first => exact State.foldl_unitsOk (fun _ b hu => State.tickBank_unitsOk hu b) _ hs
  | completesSlot hk => exact State.completeSlot_unitsOk hs hk
  | services b => exact State.serviceOne_unitsOk hs b
  | endsService b => exact State.endService_unitsOk hs b
  | serves c e l hp hc => exact (State.serve_quiet c s hc).unitsOk hs
  | programs f h => exact (State.endProgramming_moves (quiet := true) ..).unitsOk hs
  | @loads n f hp hn =>
    refine State.tryLoadEnd_unitsOk (Moves.unitsOk (State.completeSummary_moves (quiet := true) _) ?_)
    have claimed := State.loadClaim_moves (quiet := true) { s with image := s.image.set n.val (classify f).toImage n.isLt } n (classify f)
    exact claimed.unitsOk hs
  | precharges b hp => exact State.tryLoadEnd_unitsOk (State.unitsOk_setBank (s := s.port _) (hs.others b) (hs b))
  | resets | releases => exact fun b => (State.fresh_bank _ _ b).symm ▸ BankState.reset_ok.2.1

end

/-- Settles O56: what each change does to the one bank unit it is about. -/
theorem stepKeepsTheBankUnits : Obligations.StepKeepsTheBankUnits :=
  fun _ _ hs h => step_keeps (P := State.unitsOk) (fun _ _ => id) (fun _ _ hc => hc.keeps_unitsOk) h hs

end Sys2Proof.Machine
end

section
/-! Every held order in exactly one place after every step (O59). -/
namespace Sys2Proof.Machine

/-! ### Lanes, the report lane and the outbound queue -/

/-- The tags of the orders in a lane. -/
def BankState.laneTags (x : BankState) : List Tag := x.lane.map LaneOrder.tag

/-- The tags of the orders in all lanes. -/
def State.laneTags (s : State) : List Tag := allBanks.flatMap fun b => (s.bank b).laneTags

/-- The tags of the replies in the outbound queue. -/
def State.replyTags (s : State) : List Tag := s.outbound.filterMap OutMsg.replyTag

/-- What the link reset asks of a bank unit: closed and empty once it has reported, and until then its READ or WRITE in progress (R44, R46). -/
def BankState.resetOk (x : BankState) : Prop :=
  (x.reported = true → x.lane = [] ∧ x.inProgress = none) ∧ (x.reported = false → x.burstInProgress = true ∧ x.lane.length ≤ 1)

theorem allBanks_nodup : allBanks.Nodup := List.nodup_finRange 48

theorem mem_allBanks (b : Bank) : b ∈ allBanks := List.mem_finRange b

section
variable {s t u : State} {b : Bank}

theorem State.placedTags_eq (s : State) : s.placedTags = s.laneTags ++ s.reportLane.map Report.tag ++ s.replyTags := rfl

theorem State.ordersOk_iff : s.ordersOk ↔ (s.link = .up → s.held.Perm s.placedTags)
    ∧ (s.link ≠ .up → s.held = [] ∧ s.reportLane = [] ∧ s.replyTags = [])
    ∧ (s.link = .resetting → ∀ b, (s.bank b).resetOk)
    ∧ (s.link = .down → ∀ b, (s.bank b).lane = [] ∧ (s.bank b).inProgress = none)
    ∧ (s.part ≠ .running → s.link = .down) := Iff.rfl

/-- The tags of one bank's lane stand beside those of the others, which a change of that bank leaves. -/
theorem State.laneTags_setBank (s : State) (b : Bank) : ∃ R, s.laneTags.Perm ((s.bank b).laneTags ++ R)
    ∧ ∀ x, (s.setBank b x).laneTags.Perm (x.laneTags ++ R) := by
  have split (u : State) : u.laneTags.Perm ((u.bank b).laneTags ++ (allBanks.erase b).flatMap fun c => (u.bank c).laneTags) :=
    ((List.perm_cons_erase (mem_allBanks b)).flatMap_right fun c => (u.bank c).laneTags).trans (.of_eq List.flatMap_cons)
  refine ⟨_, split s, fun x => (split _).trans (.of_eq ?_)⟩
  rw [State.bank_setBank_self]
  congr 1
  refine List.flatMap_congr fun c hc => ?_
  rw [State.bank_setBank_of_ne _ _ ((allBanks_nodup.mem_erase_iff.mp hc).1)]

/-- What stands of the orders: the lanes with what is in progress, the held tags, the REPORTs, the replies, the link and the part. -/
structure OrdersFixed (s t : State) : Prop where
  lane : ∀ b, (t.bank b).lane = (s.bank b).lane
  inProgress : ∀ b, (t.bank b).inProgress = (s.bank b).inProgress
  reported : ∀ b, (t.bank b).reported = (s.bank b).reported
  held : t.held = s.held
  reportLane : t.reportLane = s.reportLane
  replies : t.replyTags = s.replyTags
  link : t.link = s.link
  part : t.part = s.part

theorem OrdersFixed.refl (s : State) : OrdersFixed s s := ⟨fun _ => rfl, fun _ => rfl, fun _ => rfl, rfl, rfl, rfl, rfl, rfl⟩

theorem OrdersFixed.trans (h : OrdersFixed s t) (h' : OrdersFixed t u) : OrdersFixed s u :=
  ⟨fun b => (h'.lane b).trans (h.lane b), fun b => (h'.inProgress b).trans (h.inProgress b),
    fun b => (h'.reported b).trans (h.reported b), h'.held.trans h.held, h'.reportLane.trans h.reportLane, h'.replies.trans h.replies,
    h'.link.trans h.link, h'.part.trans h.part⟩

theorem Quiet.ordersFixed (h : Quiet s t) : OrdersFixed s t :=
  ⟨fun b => (h.unit b).lane, fun b => (h.unit b).inProgress, fun b => (h.unit b).reported, h.held, h.reportLane, h.replies, h.link, h.part⟩

theorem Moves.ordersFixed {calm : Bool} (h : Moves calm true s t) : OrdersFixed s t := h.quiet.ordersFixed

theorem OrdersFixed.setBank {x : BankState} (hl : x.lane = (s.bank b).lane) (hp : x.inProgress = (s.bank b).inProgress)
    (hr : x.reported = (s.bank b).reported) : OrdersFixed s (s.setBank b x) := by
  refine ⟨fun c => ?_, fun c => ?_, fun c => ?_, rfl, rfl, rfl, rfl, rfl⟩ <;> rw [State.bank_setBank] <;> split
  · next hc => rw [hc]; exact hl
  · rfl
  · next hc => rw [hc]; exact hp
  · rfl
  · next hc => rw [hc]; exact hr
  · rfl

/-- The active context is no part of the orders. -/
theorem OrdersFixed.setActive (h : OrdersFixed s t) (o : Option Active) : OrdersFixed s { t with active := o } :=
  ⟨h.lane, h.inProgress, h.reported, h.held, h.reportLane, h.replies, h.link, h.part⟩

theorem BankState.resetOk_congr {x y : BankState} (hl : y.lane = x.lane) (hp : y.inProgress = x.inProgress) (hr : y.reported = x.reported)
    (h : x.resetOk) : y.resetOk := by
  unfold BankState.resetOk at *
  rwa [hl, hp, hr, BankState.burstInProgress_congr hp]

theorem OrdersFixed.keeps (h : OrdersFixed s t) (hs : s.ordersOk) : t.ordersOk := by
  rw [State.ordersOk_iff, State.placedTags_eq] at hs ⊢
  have lanes : t.laneTags = s.laneTags := by
    unfold State.laneTags BankState.laneTags
    simp only [h.lane]
  rw [lanes, h.held, h.reportLane, h.replies, h.link, h.part]
  obtain ⟨h1, h2, h3, h4, h5⟩ := hs
  refine ⟨h1, h2, fun hl b => BankState.resetOk_congr (h.lane b) (h.inProgress b) (h.reported b) (h3 hl b), fun hl b => ?_, h5⟩
  rw [h.lane, h.inProgress]
  exact h4 hl b

theorem State.handNeed_ordersFixed (b : Bank) (s : State) : OrdersFixed s (s.handNeed b) :=
  (State.handNeed_moves (calm := true) s b).ordersFixed

/-! ### Waiting orders -/

/-- An order waits in a lane with none in progress only while the link is UP. -/
theorem State.ordersOk.up_of_waiting (h : s.ordersOk) (hip : (s.bank b).inProgress = none) (hl : (s.bank b).lane ≠ []) : s.link = .up := by
  obtain ⟨-, -, h3, h4, -⟩ := State.ordersOk_iff.mp h
  cases hlink : s.link with
  | up => rfl
  | down => exact absurd (h4 hlink b).1 hl
  | resetting =>
    obtain ⟨hr, hn⟩ := h3 hlink b
    cases hrep : (s.bank b).reported with
    | true => exact absurd (hr hrep).1 hl
    | false =>
      have := (hn hrep).1
      unfold BankState.burstInProgress at this
      rw [hip] at this
      cases this

/-- While the link is UP only the tags of the orders count. -/
theorem State.ordersOk_setBank_up {x : BankState} (h : s.ordersOk) (hup : s.link = .up) (hl : x.lane = (s.bank b).lane) :
    (s.setBank b x).ordersOk := by
  obtain ⟨h1, -, -, -, h5⟩ := State.ordersOk_iff.mp h
  have up : (s.setBank b x).link = .up := hup
  refine State.ordersOk_iff.mpr ⟨fun _ => ?_, fun hn => absurd up hn, fun hr => ?_, fun hd => ?_, h5⟩
  · have lanes : (s.setBank b x).laneTags = s.laneTags := by
      unfold State.laneTags BankState.laneTags
      refine List.flatMap_congr fun c _ => ?_
      rw [State.bank_setBank]
      split
      · next hc => rw [hc, hl]
      · rfl
    rw [State.placedTags_eq, lanes]
    exact h1 hup
  · rw [up] at hr; cases hr
  · rw [up] at hd; cases hd

/-! ### The link's return to UP -/

theorem State.allReported_iff : s.allReported = true ↔ ∀ b, (s.bank b).reported = true := by
  unfold State.allReported
  rw [banks_toList, List.all_map, List.all_eq_true]
  exact ⟨fun h b => h b (mem_allBanks b), fun h b _ => h b⟩

/-- With every lane empty nothing stands in a lane. -/
theorem State.laneTags_eq_nil (h : ∀ b, (s.bank b).lane = []) : s.laneTags = [] := by
  unfold State.laneTags BankState.laneTags
  refine List.flatMap_eq_nil_iff.mpr fun b _ => ?_
  rw [h]; rfl

/-- The link UP with no order held and every lane empty. -/
theorem State.ordersOk_up_empty (hl : s.link = .up) (hh : s.held = []) (hr : s.reportLane = []) (ho : s.replyTags = [])
    (hlane : ∀ b, (s.bank b).lane = []) (hp : s.part = .running) : s.ordersOk := by
  refine State.ordersOk_iff.mpr ⟨fun _ => ?_, fun h => absurd hl h, fun h => ?_, fun h => ?_, fun h => absurd hp h⟩
  · rw [State.placedTags_eq, State.laneTags_eq_nil hlane, hr, ho, hh]; exact .nil
  · rw [hl] at h; cases h
  · rw [hl] at h; cases h

theorem State.ordersOk.running (h : s.ordersOk) (hl : s.link ≠ .down) : s.part = .running := by
  by_contra hp
  exact hl ((State.ordersOk_iff.mp h).2.2.2.2 hp)

theorem State.nameNeed_ordersFixed (b : Bank) (s : State) : OrdersFixed s (s.nameNeed b) :=
  (State.nameNeed_moves (calm := true) (quiet := true) ..).ordersFixed

theorem State.foldl_ordersFixed {f : State → Bank → State} (h : ∀ s b, OrdersFixed s (f s b)) (l : List Bank) (s : State) :
    OrdersFixed s (l.foldl f s) := by
  induction l generalizing s with
  | nil => exact .refl s
  | cons b l ih => exact (h s b).trans (ih _)

theorem State.tryLinkUp_ordersOk (h : s.ordersOk) : s.tryLinkUp.ordersOk := by
  unfold State.tryLinkUp
  split
  · next hc =>
    obtain ⟨hl, hall⟩ := hc
    obtain ⟨-, h2, h3, -, -⟩ := State.ordersOk_iff.mp h
    obtain ⟨hh, hr, ho⟩ := h2 (by rw [hl]; exact nofun)
    refine (State.foldl_ordersFixed (fun s b => s.nameNeed_ordersFixed b) _ _).keeps ?_
    refine State.ordersOk_up_empty rfl hh hr ?_ (fun b => ((h3 hl b).1 (State.allReported_iff.mp hall b)).1) ?_
    · unfold State.replyTags at ho ⊢
      rw [List.filterMap_append, ho]
      rfl
    · exact h.running (by rw [hl]; exact nofun)
  · exact h

/-! ### The end of an order -/

theorem State.revokeIfForced_ordersFixed (b : Bank) (s : State) : OrdersFixed s (s.revokeIfForced b) := by
  unfold State.revokeIfForced
  split
  · next r p _ _ _ =>
    have revoked : OrdersFixed s ((s.port [.precharge b p]).setBank b
        (BankState.refreshJob .forced { s.bank b with revoked := true, forced := false })) :=
      (Moves.ordersFixed (s.port_moves (calm := true) _)).trans <| OrdersFixed.setBank (s := s.port [.precharge b p])
        (x := BankState.refreshJob .forced { s.bank b with revoked := true, forced := false }) rfl rfl rfl
    unfold State.revoke
    dsimp only
    refine OrdersFixed.trans ?_ (Moves.ordersFixed (State.raise_moves (calm := true) ..))
    exact revoked.trans (Moves.ordersFixed (State.handLost_moves (calm := true) _ b))
  · exact .refl s

/-- A bank unit without order or lane closed for the link reset. -/
theorem State.closeForReset_bank (b c : Bank) (s : State) : ((s.closeForReset b).bank c).lane = (s.bank c).lane
    ∧ ((s.closeForReset b).bank c).inProgress = (s.bank c).inProgress
    ∧ ((s.closeForReset b).bank c).reported = (if c = b then true else (s.bank c).reported) := by
  unfold State.closeForReset
  split <;> rw [State.bank_setBank] <;> split
  · next hc => rw [hc]; exact ⟨rfl, rfl, rfl⟩
  · exact ⟨rfl, rfl, rfl⟩
  · next hc => rw [hc]; exact ⟨rfl, rfl, rfl⟩
  · exact ⟨rfl, rfl, rfl⟩

/-- While the link is UP it is enough that the held tags are the placed ones. -/
theorem State.ordersOk_of_up (hup : s.link = .up) (hrun : s.part = .running) (h : s.held.Perm s.placedTags) : s.ordersOk := by
  refine State.ordersOk_iff.mpr ⟨fun _ => h, fun hn => absurd hup hn, fun hr => ?_, fun hd => ?_, fun hp => absurd hrun hp⟩
  · rw [hup] at hr; cases hr
  · rw [hup] at hd; cases hd

/-- An order's tag passed from its lane to its reply stays placed (R56). -/
theorem State.replied_placedTags {o : LaneOrder} {rest : List LaneOrder} {x : BankState} {m : OutMsg} (hl : (s.bank b).lane = o :: rest)
    (hx : x.lane = rest) (hm : m.replyTag = some o.tag) :
    s.placedTags.Perm (({ s with outbound := s.outbound ++ [m] } : State).setBank b x).placedTags := by
  obtain ⟨R, hold, hnew⟩ := s.laneTags_setBank b
  have new : State.laneTags (({ s with outbound := s.outbound ++ [m] } : State).setBank b x) = (s.setBank b x).laneTags := rfl
  have replies : State.replyTags (({ s with outbound := s.outbound ++ [m] } : State).setBank b x) = s.replyTags ++ [o.tag] := by
    show (s.outbound ++ [m]).filterMap OutMsg.replyTag = _
    rw [List.filterMap_append, List.filterMap_cons, hm]
    rfl
  have lane : (s.bank b).laneTags = o.tag :: x.laneTags := by unfold BankState.laneTags; rw [hl, hx]; rfl
  rw [State.placedTags_eq, State.placedTags_eq, replies, new, List.perm_iff_count]
  intro g
  have before := hold.count_eq g
  have after := (hnew x).count_eq g
  rw [lane] at before
  simp only [List.count_append, List.count_cons, List.count_nil, State.setBank_reportLane] at before after ⊢
  omega

theorem State.settle_ordersOk_up (h : s.ordersOk) (hup : s.link = .up) (b : Bank) : (s.settle b).ordersOk := by
  unfold State.settle
  rw [if_neg (by rw [hup]; exact nofun)]
  exact (State.revokeIfForced_ordersFixed b s).keeps h

/-- The last order of a bank in RESETTING ends: the bank reports closed (R44, R46). -/
theorem State.settle_ordersOk_resetting {x : BankState} (h : s.ordersOk) (hr : s.link = .resetting) (hl : x.lane = [])
    (hp : x.inProgress = none) : ((s.setBank b x).settle b).ordersOk := by
  obtain ⟨-, h2, h3, -, h5⟩ := State.ordersOk_iff.mp h
  unfold State.settle
  rw [if_pos (by exact hr)]
  refine State.tryLinkUp_ordersOk ?_
  rw [State.closeForReset_frame]
  refine State.ordersOk_iff.mpr ⟨fun hu => ?_, h2, fun _ c => ?_, fun hd => ?_, h5⟩
  · have hu : s.link = .up := hu
    rw [hr] at hu; cases hu
  · obtain ⟨lane, prog, rep⟩ := State.closeForReset_bank b c (s.setBank b x)
    rw [State.bank_setBank] at lane prog rep
    by_cases hc : c = b
    · rw [if_pos hc] at lane prog rep
      refine ⟨fun _ => ⟨lane.trans hl, prog.trans hp⟩, fun hn => ?_⟩
      exact nomatch rep.symm.trans hn
    · rw [if_neg hc] at lane prog rep
      rw [if_neg hc] at rep
      exact BankState.resetOk_congr lane prog rep (h3 hr c)
  · have hd : s.link = .down := hd
    rw [hr] at hd; cases hd

/-- The end of the order at the head of a lane (R30). -/
theorem State.endOrder_ordersOk (h : s.ordersOk) (b : Bank) (body : ReplyBody) : (s.endOrder b body).ordersOk := by
  obtain ⟨h1, -, h3, h4, -⟩ := State.ordersOk_iff.mp h
  unfold State.endOrder
  split
  · exact h
  · next o rest hlane =>
    cases hlink : s.link with
    | up =>
      have running := h.running (by rw [hlink]; exact nofun)
      refine State.settle_ordersOk_up (State.ordersOk_of_up ?_ ?_ ?_) ?_ b
      all_goals unfold State.handReply; rw [if_pos hlink]
      · exact hlink
      · exact running
      · exact (h1 hlink).trans (State.replied_placedTags hlane rfl rfl)
      · exact hlink
    | resetting =>
      have unsent : s.handReply o.tag (some b) body = s := by unfold State.handReply; rw [if_neg (by rw [hlink]; exact nofun)]
      obtain ⟨hr, hn⟩ := h3 hlink b
      have empty : rest = [] := by
        cases hrep : (s.bank b).reported with
        | true => rw [(hr hrep).1] at hlane; cases hlane
        | false =>
          have := (hn hrep).2
          rw [hlane, List.length_cons] at this
          exact List.eq_nil_of_length_eq_zero (by omega)
      rw [unsent, empty]
      exact State.settle_ordersOk_resetting h hlink rfl rfl
    | down => rw [(h4 hlink b).1] at hlane; cases hlane

/-! ### The arbiter and the migration engine -/

theorem State.closeBank_ordersFixed (b : Bank) (s : State) : OrdersFixed s (s.closeBank b) := .setBank rfl rfl rfl

theorem State.grantForced_ordersFixed (b : Bank) (s : State) : OrdersFixed s (s.grantForced b) :=
  OrdersFixed.setBank (x := BankState.refreshJob .forced { s.bank b with forced := false }) rfl rfl rfl

theorem State.takeSwitch_ordersFixed (a : Active) (s : State) : OrdersFixed s (s.takeSwitch a) :=
  (((State.switchRecord_moves (quiet := true) s a).ordersFixed.trans (State.closeBank_ordersFixed a.bank _)).setActive none).trans
    (Moves.ordersFixed (State.takeJob_moves (quiet := true) _))

theorem State.grantMigration_ordersFixed (b : Bank) (k : ClaimKind) (s : State) : OrdersFixed s (s.grantMigration b k) := by
  have granted (sh : Shadow) : OrdersFixed s (s.setBank b { s.bank b with migClaim := none, claimNew := false, passover := 0, shadow := sh }) :=
    OrdersFixed.setBank (x := { s.bank b with migClaim := none, claimNew := false, passover := 0, shadow := sh }) rfl rfl rfl
  unfold State.grantMigration
  dsimp only
  split
  · exact (granted (.claimed .copy)).setActive _
  · exact granted (.claimed .final)
  · split
    · next a ha =>
      split
      · refine (granted (.claimed .switch)).trans ?_
        unfold State.switchJob
        split
        · exact State.takeSwitch_ordersFixed a _
        · exact (State.closeBank_ordersFixed a.bank _).trans (State.checkFailed_moves (quiet := true) ..).ordersFixed
      · exact granted (s.bank b).shadow
    · exact granted (s.bank b).shadow

theorem State.serveOpen_ordersOk (h : s.ordersOk) (b : Bank) (r : LRow) : (s.serveOpen b r).ordersOk := by
  unfold State.serveOpen
  dsimp only
  refine State.endOrder_ordersOk ?_ b .done
  have cleared : OrdersFixed s (s.setBank b { s.bank b with revoked := false }) :=
    OrdersFixed.setBank (x := { s.bank b with revoked := false }) rfl rfl rfl
  have activated := cleared.trans (Moves.ordersFixed (State.activate_moves (calm := true) b ((s.bank b).lookupRow r) _))
  have opened := OrdersFixed.setBank (s := State.activate b ((s.bank b).lookupRow r) (s.setBank b { s.bank b with revoked := false })) (b := b)
    (x := { (State.activate b ((s.bank b).lookupRow r) (s.setBank b { s.bank b with revoked := false })).bank b with
      shadow := .opened r ((s.bank b).lookupRow r) }) rfl rfl rfl
  exact (activated.trans opened).keeps h

theorem State.grantLane_ordersOk (h : s.ordersOk) (hip : (s.bank b).inProgress = none) (hl : (s.bank b).lane ≠ []) (op : BankOp) (w : Bool) :
    (s.grantLane b op w).ordersOk := by
  unfold State.grantLane
  dsimp only
  split
  · exact State.serveOpen_ordersOk (OrdersFixed.keeps (.setBank (by rfl) (by rfl) (by rfl)) h) b _
  · exact State.ordersOk_setBank_up h (h.up_of_waiting hip hl) rfl
  all_goals exact h

/-- The choice of an arbiter that finds its lane's candidate finds an order in the lane. -/
theorem BankState.lane_of_choice {x : BankState} {limit : Nat} {e : Bool} {op : BankOp} (h : x.choose limit e = some (.lane op)) :
    x.lane ≠ [] := by
  refine BankState.lane_of_candidate (op := op) ?_
  unfold BankState.choose at h
  split at h
  · cases h
  · split at h
    · split at h <;> cases h
      assumption
    · cases h
    · cases h
      assumption
    · cases h

theorem State.arbiterChoice_ordersOk (h : s.ordersOk) (b : Bank) (early : Bool) : (s.arbiterChoice b early).ordersOk := by
  unfold State.arbiterChoice
  dsimp only
  split
  · next hc =>
    split
    · next c hch =>
      cases c with
      | forced => exact (State.grantForced_ordersFixed b s).keeps h
      | migration k => exact (State.grantMigration_ordersFixed b k s).keeps h
      | lane op => exact State.grantLane_ordersOk h hc.2 (BankState.lane_of_choice hch) op _
    · exact h
  · exact h

/-! ### Ticks, slots and target service -/

theorem State.tickBank_ordersFixed (b : Bank) (s : State) : OrdersFixed s (s.tickBank b) := by
  have hands {t : State} {c : Bool} (ht : OrdersFixed s t) : OrdersFixed s (if c then t.handNeed b else t) := by
    split
    · exact ht.trans (State.handNeed_ordersFixed b t)
    · exact ht
  have revokes {t : State} {c : Bool} (ht : OrdersFixed s t) : OrdersFixed s (if c then t.revokeIfForced b else t) := by
    split
    · exact ht.trans (State.revokeIfForced_ordersFixed b t)
    · exact ht
  unfold State.tickBank
  dsimp only
  split
  · exact hands (revokes (.setBank (by rfl) (by rfl) (by rfl)))
  · exact (State.raise_moves (calm := true) ..).ordersFixed

theorem BankState.takeTarget_orders (reach : Nat) (x : BankState) : (x.takeTarget reach).lane = x.lane
    ∧ (x.takeTarget reach).inProgress = x.inProgress ∧ (x.takeTarget reach).reported = x.reported := by
  rw [BankState.takeTarget_frame]
  exact ⟨rfl, rfl, rfl⟩

theorem State.serviceOne_ordersFixed (b : Bank) (s : State) : OrdersFixed s (s.serviceOne b) := by
  unfold State.serviceOne
  split
  · obtain ⟨hl, hp, hr⟩ := BankState.takeTarget_orders s.settings.reach (s.bank b)
    exact (Moves.ordersFixed (s.port_moves (calm := true) _)).trans (OrdersFixed.setBank (s := s.port _) hl hp hr)
  · exact .refl s

theorem State.serviceMany_ordersFixed (b : Bank) (n : Nat) (s : State) : OrdersFixed s (State.serviceMany b n s) := by
  induction n generalizing s with
  | zero => exact .refl s
  | succ n ih => exact (State.serviceOne_ordersFixed b s).trans (ih _)

theorem State.afterService_ordersOk (h : s.ordersOk) (b : Bank) : (s.afterService b).ordersOk := by
  have closed : (s.setBank b { s.bank b with service := none, shadow := .closed }).ordersOk :=
    OrdersFixed.keeps (.setBank (by rfl) (by rfl) (by rfl)) h
  unfold State.afterService
  dsimp only
  split
  · split
    · exact State.endOrder_ordersOk closed b .done
    · exact closed
  · split
    · exact closed
    · exact OrdersFixed.keeps (.setBank (by rfl) (by rfl) (by rfl)) h
  · exact OrdersFixed.keeps (.setBank (by rfl) (by rfl) (by rfl)) h

theorem State.completeSlot_ordersOk (h : s.ordersOk) (b : Bank) (k : Nat) : (s.completeSlot b k).ordersOk := by
  have begun (x : BankState) (hl : x.lane = (s.bank b).lane) (hp : x.inProgress = (s.bank b).inProgress)
      (hr : x.reported = (s.bank b).reported) (reach : Nat) (u : State) (hu : u.ordersOk) (hb : u.bank b = s.bank b) :
      (u.setBank b (x.takeTarget reach)).ordersOk := by
    obtain ⟨hl', hp', hr'⟩ := BankState.takeTarget_orders reach x
    exact OrdersFixed.keeps (.setBank (by rw [hl', hl, hb]) (by rw [hp', hp, hb]) (by rw [hr', hr, hb])) hu
  unfold State.completeSlot State.beginService
  dsimp only
  rw [State.bank_setBank_self, State.setBank_setBank]
  have started := begun { (s.bank b).slotDone s.settings.urgentLevel k with service := some { left := s.settings.targetsPerRef, current := none } }
    rfl rfl rfl s.settings.reach (s.port ((slotRows k).map (.refreshRow b))) h rfl
  split
  · exact started
  · exact State.afterService_ordersOk started b

theorem State.endService_ordersOk (h : s.ordersOk) (b : Bank) : (s.endService b).ordersOk := by
  unfold State.endService
  split
  · exact h
  · exact State.afterService_ordersOk ((State.serviceMany_ordersFixed b _ s).keeps h) b

/-! ### The intake -/

/-- An accepted order is held and stands in its lane (R55). -/
theorem State.acceptOrder_ordersOk (h : s.ordersOk) (hup : s.link = .up) (o : Order) : (s.acceptOrder o).ordersOk := by
  have running := h.running (by rw [hup]; exact nofun)
  have placed := (State.ordersOk_iff.mp h).1 hup
  rw [State.placedTags_eq] at placed
  cases o with
  | bank g b op =>
    refine State.ordersOk_of_up hup running ?_
    obtain ⟨R, hold, hnew⟩ := s.laneTags_setBank b
    have joined := hnew { s.bank b with lane := (s.bank b).lane ++ [LaneOrder.mk g op] }
    have lane : BankState.laneTags { s.bank b with lane := (s.bank b).lane ++ [LaneOrder.mk g op] } = (s.bank b).laneTags ++ [g] :=
      List.map_append
    rw [lane] at joined
    unfold State.acceptOrder
    rw [List.perm_iff_count] at placed
    rw [State.placedTags_eq, List.perm_iff_count]
    intro t
    have p1 := placed t
    have p2 := hold.count_eq t
    have p3 : List.count t (State.laneTags (({ s with held := g :: s.held } : State).setBank b
        { s.bank b with lane := (s.bank b).lane ++ [LaneOrder.mk g op] })) = _ := joined.count_eq t
    have replies : State.replyTags (({ s with held := g :: s.held } : State).setBank b
        { s.bank b with lane := (s.bank b).lane ++ [LaneOrder.mk g op] }) = s.replyTags := rfl
    simp only [List.count_append, List.count_cons, List.count_nil, State.setBank_reportLane, State.setBank_held, replies] at p1 p2 p3 ⊢
    omega
  | report g b r k =>
    refine State.ordersOk_of_up hup running ?_
    unfold State.acceptOrder
    rw [List.perm_iff_count] at placed
    rw [State.placedTags_eq, List.perm_iff_count]
    intro t
    have p1 := placed t
    have lanes : State.laneTags { s with held := g :: s.held, reportLane := s.reportLane ++ [Report.mk g b r k] } = s.laneTags := rfl
    have replies : State.replyTags { s with held := g :: s.held, reportLane := s.reportLane ++ [Report.mk g b r k] } = s.replyTags := rfl
    simp only [List.count_append, List.count_cons, List.count_nil, List.map_append, List.map_cons, List.map_nil, lanes, replies] at p1 ⊢
    omega

theorem State.takeOrder_ordersOk (h : s.ordersOk) (k t : Byte) (l : List Byte) : (s.takeOrder k t l).ordersOk := by
  unfold State.takeOrder
  split
  · next r _ =>
    have rejected : OrdersFixed s { s with outbound := s.outbound ++ [.intakeReject (frameTag t) r] } := by
      refine ⟨fun _ => rfl, fun _ => rfl, fun _ => rfl, rfl, rfl, ?_, rfl, rfl⟩
      unfold State.replyTags
      simp [List.filterMap_append, OutMsg.replyTag]
    unfold State.rejectOrder
    dsimp only
    split
    · exact rejected.keeps h
    · exact (rejected.trans (Moves.ordersFixed (State.raise_moves (calm := true) ..))).keeps h
  · next hn ho => exact State.acceptOrder_ordersOk h (State.orderReject_eq_none hn).1 _
  · exact h

/-- A bank unit told of the link reset closes and reports, or goes on with its READ or WRITE (R44, R46). -/
theorem State.resetBank_bank (b c : Bank) (s : State) : (c = b → ((s.resetBank b).bank c).resetOk) ∧ (c ≠ b → (s.resetBank b).bank c = s.bank c) := by
  have told : (s.bank b).linkReset.inProgress = none ∧ (s.bank b).linkReset.lane = []
      ∨ (s.bank b).linkReset.inProgress ≠ none ∧ (s.bank b).linkReset.resetOk := by
    unfold BankState.linkReset
    split
    · next body hip =>
      refine .inr ⟨by rw [hip]; exact nofun, nofun, fun _ => ⟨?_, ?_⟩⟩
      · unfold BankState.burstInProgress; rw [hip]
      · exact (List.length_take_le 1 _)
    · exact .inl ⟨rfl, rfl⟩
    · next hip => exact .inl ⟨hip, rfl⟩
  unfold State.resetBank
  dsimp only
  rw [State.bank_setBank_self]
  rcases told with ⟨hip, hl⟩ | ⟨hip, hok⟩
  · rw [if_pos hip]
    constructor
    · rintro rfl
      obtain ⟨lane, prog, rep⟩ := State.closeForReset_bank c c (s.setBank c (s.bank c).linkReset)
      rw [State.bank_setBank_self] at lane prog
      rw [if_pos rfl] at rep
      exact ⟨fun _ => ⟨lane.trans hl, prog.trans hip⟩, fun hn => by rw [rep] at hn; cases hn⟩
    · intro hc
      unfold State.closeForReset
      split <;> rw [State.bank_setBank_of_ne _ _ hc]
      · exact State.bank_setBank_of_ne _ _ hc
      · exact State.bank_setBank_of_ne _ _ hc
  · rw [if_neg hip]
    exact ⟨fun hc => by rw [hc, State.bank_setBank_self]; exact hok, fun hc => State.bank_setBank_of_ne _ _ hc⟩

theorem State.resetBanks_resetOk (l : List Bank) (s : State) (c : Bank) (h : c ∈ l ∨ (s.bank c).resetOk) :
    ((l.foldl (fun s b => s.resetBank b) s).bank c).resetOk := by
  induction l generalizing s with
  | nil => simpa using h
  | cons b l ih =>
    refine ih _ ?_
    obtain ⟨own, other⟩ := s.resetBank_bank b c
    by_cases hc : c = b
    · exact .inr (own hc)
    · rw [other hc]
      rcases h with h | h
      · exact .inl ((List.mem_cons.mp h).resolve_left hc)
      · exact .inr h

theorem State.takeLinkReset_ordersOk (h : s.ordersOk) (sending : Bool) : (s.takeLinkReset sending).ordersOk := by
  unfold State.takeLinkReset
  split
  · next hup =>
    have running := h.running (by rw [hup]; exact nofun)
    refine State.tryLinkUp_ordersOk ?_
    rw [State.completeSending_frame]
    dsimp only
    refine State.ordersOk_iff.mpr ⟨fun hu => ?_, fun _ => ?_, fun _ c => State.resetBanks_resetOk _ _ c (.inl (mem_allBanks c)),
      fun hd => ?_, fun hp => ?_⟩
    · rw [State.resetBanks_frame] at hu; cases hu
    · unfold State.replyTags; rw [State.resetBanks_frame]; exact ⟨rfl, rfl, rfl⟩
    · rw [State.resetBanks_frame] at hd; cases hd
    · rw [State.resetBanks_frame] at hp; exact absurd running hp
  · exact h

theorem State.takeFrame_ordersOk (h : s.ordersOk) (f : List Byte) : (s.takeFrame f).ordersOk := by
  unfold State.takeFrame
  split
  · exact h
  · split
    · exact State.takeLinkReset_ordersOk h _
    · split
      · exact State.takeOrder_ordersOk h _ _ _
      · split
        · exact (State.raise_moves (calm := true) ..).ordersFixed.keeps h
        · exact h

theorem State.takeWaiting_ordersOk (l : List (List Byte)) (h : s.ordersOk) : (State.takeWaiting l s).ordersOk := by
  induction l generalizing s with
  | nil => exact h
  | cons f l ih =>
    unfold State.takeWaiting
    split
    · exact h
    · exact ih (State.takeFrame_ordersOk h f)

/-- A message sent leaves the outbound queue, and an order's reply takes its tag with it (R56). -/
theorem State.sendHead_ordersOk (h : s.ordersOk) : s.sendHead.ordersOk := by
  unfold State.sendHead
  split
  · exact h
  · next m q hq =>
    refine State.takeWaiting_ordersOk _ ?_
    cases hm : m.replyTag with
    | none =>
      have fixed : OrdersFixed s { s with outbound := q, linkOut := s.linkOut ++ [m.frame] } := by
        refine ⟨fun _ => rfl, fun _ => rfl, fun _ => rfl, rfl, rfl, ?_, rfl, rfl⟩
        unfold State.replyTags
        rw [hq, List.filterMap_cons, hm]
      unfold State.freeTag
      cases m with
      | reply => cases hm
      | intakeReject | ready | need | lost => exact fixed.keeps h
    | some g =>
      have freed : State.freeTag m { s with outbound := q, linkOut := s.linkOut ++ [m.frame] }
          = { s with outbound := q, linkOut := s.linkOut ++ [m.frame], held := s.held.erase g } := by
        unfold State.freeTag
        cases m with
        | reply tag src body => cases hm; rfl
        | intakeReject | ready | need | lost => cases hm
      have replies : s.replyTags = g :: q.filterMap OutMsg.replyTag := by
        unfold State.replyTags
        rw [hq, List.filterMap_cons, hm]
      rw [freed]
      obtain ⟨h1, h2, -, -, -⟩ := State.ordersOk_iff.mp h
      have hup : s.link = .up := by
        by_contra hn
        rw [(h2 hn).2.2] at replies
        cases replies
      refine State.ordersOk_of_up hup (h.running (by rw [hup]; exact nofun)) ?_
      have placed := h1 hup
      rw [State.placedTags_eq, replies] at placed
      have erased := (placed.trans List.perm_middle).erase g
      rw [List.erase_cons_head] at erased
      exact erased

/-- A REPORT taken leaves the report lane and its DONE is handed (R61). -/
theorem State.reported_ordersOk {p : Report} {rest : List Report} (h : s.ordersOk) (hl : s.reportLane = p :: rest) :
    (State.handReply p.tag none .done { s with reportLane := rest }).ordersOk := by
  obtain ⟨h1, h2, -, -, -⟩ := State.ordersOk_iff.mp h
  have hup : s.link = .up := by
    by_contra hn
    rw [(h2 hn).2.1] at hl
    cases hl
  unfold State.handReply
  rw [if_pos (by exact hup)]
  refine State.ordersOk_of_up hup (h.running (by rw [hup]; exact nofun)) ?_
  have placed := h1 hup
  rw [State.placedTags_eq, hl, List.perm_iff_count] at placed
  rw [State.placedTags_eq, List.perm_iff_count]
  intro g
  have p1 := placed g
  have lanes : State.laneTags { s with reportLane := rest, outbound := s.outbound ++ [.reply p.tag none .done] } = s.laneTags := rfl
  have replies : State.replyTags { s with reportLane := rest, outbound := s.outbound ++ [.reply p.tag none .done] } = s.replyTags ++ [p.tag] := by
    unfold State.replyTags
    rw [List.filterMap_append]
    rfl
  rw [lanes, replies]
  simp only [List.map_cons, List.count_append, List.count_cons, List.count_nil] at p1 ⊢
  omega

/-! ### Every step -/

/-- The part RUNNING with the link UP (R149): nothing is held. -/
theorem State.tryLoadEnd_ordersOk (h : s.ordersOk) (hp : s.part = .loading) : s.tryLoadEnd.ordersOk := by
  unfold State.tryLoadEnd
  split
  · obtain ⟨-, h2, -, h4, h5⟩ := State.ordersOk_iff.mp h
    have down := h5 (by rw [hp]; exact nofun)
    obtain ⟨hh, hr, ho⟩ := h2 (by rw [down]; exact nofun)
    refine (State.raise_moves (calm := true) ..).ordersFixed.keeps ?_
    refine State.ordersOk_up_empty rfl hh hr ?_ (fun b => (h4 down b).1) rfl
    unfold State.replyTags at ho ⊢
    rw [List.filterMap_append, ho]
    rfl
  · exact h

theorem Change.keeps_ordersOk (h : Change s t) (hs : s.ordersOk) : t.ordersOk := by
  cases h with
  | stays => exact hs
  | asks => exact hs
  | arrives f =>
    unfold State.arrive
    split
    · exact hs
    · split
      · exact hs
      · exact State.takeFrame_ordersOk hs f
  | resetsLink rest sending =>
    unfold State.arriveLinkReset
    split
    · exact hs
    · split
      · exact hs
      · exact State.takeLinkReset_ordersOk hs sending
  | sends => exact State.sendHead_ordersOk hs
  | @takesReport p rest hl =>
    have fixed := (State.takeReport_quiet p.bank p.row p.kind s).ordersFixed
    exact State.reported_ordersOk (fixed.keeps hs) (fixed.reportLane.trans hl)
  | answers body h => exact State.endOrder_ordersOk hs _ body
  | @reads b c r p h hsh =>
    obtain ⟨hip, hl, -⟩ := BankState.beginable_eq_some h
    exact State.ordersOk_setBank_up (s := s.port _) hs (hs.up_of_waiting hip hl) rfl
  | @writes b c v r p h hsh =>
    obtain ⟨hip, hl, -⟩ := BankState.beginable_eq_some h
    exact State.ordersOk_setBank_up (s := State.noteWrite b r c _) hs (hs.up_of_waiting hip hl) rfl
  | @closesOpen b r p h hsh =>
    exact State.endOrder_ordersOk ((State.closeBank_ordersFixed b (s.port [.precharge b p])).keeps hs) b .done
  | @closesOther b h ho =>
    exact State.endOrder_ordersOk (OrdersFixed.keeps (.setBank (by rfl) (by rfl) (by rfl)) hs) b .done
  | completes h => exact State.endOrder_ordersOk hs _ _
  | chooses b early => exact State.arbiterChoice_ordersOk hs b early
  | @endsMainChunk a k =>
    refine OrdersFixed.keeps (s := s) ?_ hs
    exact ((State.copyChunk_moves (quiet := true) s k).ordersFixed.trans (State.closeBank_ordersFixed a.bank _)).trans
      (State.afterMainChunk_moves (quiet := true) ..).ordersFixed
  | @endsRecopyChunk a k =>
    refine OrdersFixed.keeps (s := s) ?_ hs
    exact ((State.copyChunk_moves (quiet := true) s k).ordersFixed.trans (State.closeBank_ordersFixed a.bank _)).trans
      (State.afterRecopyChunk_moves (quiet := true) ..).ordersFixed
  | @endsFinal a =>
    refine OrdersFixed.keeps (s := s) ?_ hs
    exact (State.copyFlagged_moves (quiet := true) s a.flagged).ordersFixed.trans (State.takeSwitch_ordersFixed a _)
  | ticks first => exact (State.foldl_ordersFixed (fun s b => State.tickBank_ordersFixed b s) _ s).keeps hs
  | completesSlot => exact State.completeSlot_ordersOk hs _ _
  | services b => exact (State.serviceOne_ordersFixed b s).keeps hs
  | endsService b => exact State.endService_ordersOk hs b
  | serves c e l hp hc => exact (State.serve_quiet c s hc).ordersFixed.keeps hs
  | programs f h => exact (State.endProgramming_moves (quiet := true) ..).ordersFixed.keeps hs
  | @loads n f hp hn =>
    have claimed := State.loadClaim_moves (quiet := true) { s with image := s.image.set n.val (classify f).toImage n.isLt } n (classify f)
    have read : OrdersFixed s { State.loadClaim n (classify f) { s with image := s.image.set n.val (classify f).toImage n.isLt } with
        loadPos := n.val + 1 } := by
      obtain ⟨hl, hip, hr, hh, hrl, ho, hlk, hpt⟩ := claimed.ordersFixed
      exact ⟨hl, hip, hr, hh, hrl, ho, hlk, hpt⟩
    have summed := read.trans (State.completeSummary_moves (quiet := true) _).ordersFixed
    exact State.tryLoadEnd_ordersOk (summed.keeps hs) (summed.part.trans hp)
  | precharges b hp =>
    refine State.tryLoadEnd_ordersOk (OrdersFixed.keeps (s := s) ?_ hs) hp
    refine (Moves.ordersFixed (s.port_moves (calm := true) [.prechargeBank b])).trans ?_
    exact OrdersFixed.setBank (s := s.port [.prechargeBank b]) (x := { s.bank b with precharged := true }) rfl rfl rfl
  | resets | releases =>
    refine State.ordersOk_iff.mpr ⟨nofun, fun _ => ⟨rfl, rfl, rfl⟩, nofun, fun _ b => ?_, fun _ => rfl⟩
    exact (State.fresh_bank _ _ b).symm ▸ ⟨rfl, rfl⟩

end

/-- Settles O59: what each change does to the place of the one order it is about. -/
theorem stepKeepsEveryHeldOrder : Obligations.StepKeepsEveryHeldOrder :=
  fun _ _ hs h => step_keeps (P := State.ordersOk) (fun _ _ => id) (fun _ _ hc => hc.keeps_ordersOk) h hs

end Sys2Proof.Machine
end

section
/-! The order at the head of a lane (O11 to O17). -/
namespace Sys2Proof.Machine

section
variable {s : State} {b : Bank}

/-- An order that ends in the step it is begun in: with none in progress, its reply is queued and it leaves the lane. -/
theorem State.endOrder_head {o : LaneOrder} {rest : List LaneOrder} {body : ReplyBody} (hl : s.link = .up)
    (hlane : (s.bank b).lane = o :: rest) (hip : (s.bank b).inProgress = none)
    (hf : (s.bank b).forced = true → (s.bank b).isOpen = false) : s.endOrder b body = { s.setBank b { s.bank b with lane := rest } with
      outbound := s.outbound ++ [.reply o.tag (some b) body] } := by
  have same : ({ s.bank b with lane := rest, inProgress := none } : BankState) = { s.bank b with lane := rest } := by dsimp only; rw [hip]
  rw [State.endOrder_up hl hlane hf, same]

/-- Where no forced claim stands, none stands on an OPEN bank. -/
theorem BankState.notOpen_of_not_forced {x : BankState} {p : Prop} (h : x.forced = false) (hf : x.forced = true) : p := by
  rw [h] at hf; cases hf

/-- The head of a bank that is not OPEN may begin, and so may that of one without a forced claim. -/
theorem BankState.beginable_of_closed {x : BankState} {o : LaneOrder} {rest : List LaneOrder} (hip : x.inProgress = none)
    (hlane : x.lane = o :: rest) (ho : x.isOpen = false) : x.beginable = some o.op :=
  BankState.beginable_head hip hlane fun h => by rw [ho] at h; cases h

theorem BankState.beginable_of_not_forced {x : BankState} {o : LaneOrder} {rest : List LaneOrder} (hip : x.inProgress = none)
    (hlane : x.lane = o :: rest) (hf : x.forced = false) : x.beginable = some o.op :=
  BankState.beginable_head hip hlane fun _ => hf

/-- Settles O11: the head of an OPEN bank without a forced claim may begin, and ends at once. -/
theorem openBankRefusesOpenAndRefresh : Obligations.OpenBankRefusesOpenAndRefresh := by
  intro b o rest l p c s hc hl hlane hip hs hf
  have ended := State.endOrder_head (body := .reject .bankOpen) hl hlane hip fun h => BankState.notOpen_of_not_forced hf h
  have begins := BankState.beginable_of_not_forced hip hlane hf
  rcases hc with ⟨⟨r, hop⟩, rfl⟩ | ⟨hop, rfl⟩
  · rw [hop] at begins
    simp only [exec, execHeadOpen, begins, hs, ended]
  · rw [hop] at begins
    simp only [exec, execHeadRefresh, begins, hs, ended]

/-- A READ, WRITE or CLOSE of a bank that is not OPEN touches no row. -/
theorem BankState.notOpen_shadow {x : BankState} (h : x.isOpen = false) (l : LRow) (p : PRow) : x.shadow ≠ .opened l p := by
  intro hs
  rw [BankState.isOpen_of_opened hs] at h
  cases h

/-- Settles O12: the two cases of the shadow state. -/
theorem readAtTheHead : Obligations.ReadAtTheHead := by
  intro b t c rest s hl hlane hip
  refine ⟨fun l p hs hf => ?_, fun ho => ?_⟩
  · have begins := BankState.beginable_of_not_forced hip hlane hf
    simp only [exec, execHeadRead, begins, hs]
  · have begins := BankState.beginable_of_closed hip hlane ho
    have ended := State.endOrder_head (body := (s.bank b).closedReject) hl hlane hip fun _ => ho
    rcases BankState.isOpen_eq_false ho with hs | ⟨k, hs⟩ <;> simp only [exec, execHeadRead, begins, hs, ended] <;> rfl

/-- The mask of a job after a served WRITE (R79). -/
theorem Active.written_eq (b : Bank) (r : LRow) (c : Col) (a : Active) : (a.written b r c = { a with mask := (a.written b r c).mask })
    ∧ ∀ k : Chunk, (a.written b r c).mask.get k =
      (a.mask.get k || decide (a.bank = b ∧ a.row = r ∧ k.val = c.val / 8 ∧ (a.phase = .copying → c.val / 8 < a.cursor))) := by
  unfold Active.written
  split
  · next h =>
    refine ⟨rfl, fun k => ?_⟩
    rw [Active.setFlag, vget_set]
    split
    · next hk =>
      have hc : a.phase = .copying → c.val / 8 < a.cursor := h.2.2
      have flagged : a.bank = b ∧ a.row = r ∧ k.val = c.val / 8 ∧ (a.phase = .copying → c.val / 8 < a.cursor) :=
        ⟨h.1, h.2.1, congrArg Fin.val hk, hc⟩
      rw [decide_eq_true flagged, Bool.or_true]
    · next hk =>
      have hk : k.val ≠ c.val / 8 := fun hv => hk (Fin.ext hv)
      simp [hk]
  · next h =>
    refine ⟨rfl, fun k => ?_⟩
    have : ¬ (a.bank = b ∧ a.row = r ∧ k.val = c.val / 8 ∧ (a.phase = .copying → c.val / 8 < a.cursor)) :=
      fun ⟨h1, h2, _, h4⟩ => h ⟨h1, h2, h4⟩
    simp [this]

/-- A WRITE on an OPEN bank. -/
theorem execHeadWrite_opened {c : Col} {v : Burst} {l : LRow} {p : PRow} (h : (s.bank b).beginable = some (.write c v))
    (hs : (s.bank b).shadow = .opened l p) : execHeadWrite b s
      = .next ((((s.port [.writeBurst b p c]).writeBurst b p c v).noteWrite b l c).setBank b
        { s.bank b with inProgress := some (.burst .done) }) := by
  simp only [execHeadWrite, h, hs]

/-- Settles O13: the two cases of the shadow state; the other bursts by the law of the memory. -/
theorem writeAtTheHead : Obligations.WriteAtTheHead := by
  intro b t c v rest s hl hlane hip
  refine ⟨fun l p hs hf hwf => ?_, fun ho => ?_⟩
  · have begins := BankState.beginable_of_not_forced hip hlane hf
    refine ⟨_, execHeadWrite_opened begins hs, ?_, fun a ha => ?_, ?_, fun b' p' c' hne => ?_⟩
    · cases ha : s.active with
      | none => simp only [State.noteWrite, State.writeBurst, State.port, State.setBank, ha, Option.map_none]
      | some a =>
        obtain ⟨hmask, -⟩ := Active.written_eq b l c a
        simp only [State.noteWrite, State.writeBurst, State.port, State.setBank, ha, Option.map_some, Option.elim_some, ← hmask]
    · refine ⟨a.written b l c, ?_, (Active.written_eq b l c a).2⟩
      show s.active.map _ = _
      rw [ha]
      rfl
    · exact State.readBurst_writeBurst_self (s := s) hwf b p c v
    · exact State.readBurst_writeBurst_of_ne s v hne
  · have begins := BankState.beginable_of_closed hip hlane ho
    have ended := State.endOrder_head (body := (s.bank b).closedReject) hl hlane hip fun _ => ho
    rcases BankState.isOpen_eq_false ho with hs | ⟨k, hs⟩ <;> simp only [exec, execHeadWrite, begins, hs, ended] <;> rfl

/-- An order that ends on a bank that has been changed but for its order and its lane. -/
theorem State.endOrder_changed {o : LaneOrder} {rest : List LaneOrder} {body : ReplyBody} {x : BankState} (hl : s.link = .up)
    (hlane : x.lane = o :: rest) (hip : x.inProgress = none) (hf : x.forced = true → x.isOpen = false) :
    (s.setBank b x).endOrder b body = { s.setBank b { x with lane := rest } with
      outbound := s.outbound ++ [.reply o.tag (some b) body] } := by
  rw [State.endOrder_head (o := o) (rest := rest)]
  all_goals simp only [State.bank_setBank_self, State.setBank_setBank, State.setBank_link, State.setBank_outbound]
  all_goals assumption

/-- A CLOSE on a bank that is not OPEN. -/
theorem execHeadClose_notOpen (h : (s.bank b).beginable = some .close) (ho : (s.bank b).isOpen = false) :
    execHeadClose b s = .next ((s.setBank b { s.bank b with revoked := false }).endOrder b .done) := by
  rcases BankState.isOpen_eq_false ho with hs | ⟨k, hs⟩ <;> simp only [execHeadClose, h, hs]

/-- Settles O14: the two cases of the shadow state. -/
theorem closeAtTheHead : Obligations.CloseAtTheHead := by
  intro b t rest s hl hlane hip
  refine ⟨fun l p hs hf => ?_, fun ho => ?_⟩
  · have begins := BankState.beginable_of_not_forced hip hlane hf
    have ended := State.endOrder_changed (s := s.port [.precharge b p]) (b := b) (x := { s.bank b with shadow := .closed }) (body := .done)
      hl hlane hip fun _ => rfl
    simp only [exec, execHeadClose, begins, hs]
    exact congrArg _ ended
  · have begins := BankState.beginable_of_closed hip hlane ho
    have ended := State.endOrder_changed (s := s) (b := b) (x := { s.bank b with revoked := false }) (body := .done) hl hlane hip fun _ => ho
    exact (execHeadClose_notOpen begins ho).trans (congrArg _ ended)

/-- Settles O15. -/
theorem orderCompletionHandsTheReply : Obligations.OrderCompletionHandsTheReply := by
  intro b o rest body s hl hlane hip hf
  have ended := State.endOrder_up (body := body) hl hlane fun h => BankState.notOpen_of_not_forced hf h
  simp only [exec, execOrderCompletion, hip, ended]

/-- A forced claim on an OPEN bank with no order in progress is granted by revocation. -/
theorem State.revokeIfForced_granted {r : LRow} {p : PRow} (hs : (s.bank b).shadow = .opened r p) (hf : (s.bank b).forced = true)
    (hip : (s.bank b).inProgress = none) : s.revokeIfForced b = s.revoke b r p := by
  simp only [State.revokeIfForced, hs, hf, hip]

/-- A revocation whose LOST is queued (R43, R63). -/
theorem State.revoke_up (r : LRow) (p : PRow) (hl : s.link = .up) (hm : lostMerges b s.outbound = false) : s.revoke b r p =
    ({ (s.port [.precharge b p]).setBank b { s.bank b with
        shadow := .claimed .forced, revoked := true, forced := false, claimNew := false, slot := some (s.bank b).pointer } with
      outbound := s.outbound ++ [.lost b] } : State).raise .rowRevoked (some b) (some r) (.phys p) := by
  unfold State.revoke State.handLost
  dsimp only
  rw [if_pos (by exact ⟨hl, hm⟩)]
  rfl

/-- A LOST behind a reply of its bank is not merged with one before it (R65). -/
theorem lostMerges_reply (b : Bank) (q : List OutMsg) (t : Tag) (body : ReplyBody) : lostMerges b (q ++ [.reply t (some b) body]) = false := by
  unfold lostMerges
  rw [List.foldl_append]
  simp

/-- The row operations at the port stand apart from the banks. -/
theorem State.port_setBank (ops : List StackOp) (x : BankState) (s : State) : (s.setBank b x).port ops = (s.port ops).setBank b x := rfl

/-- Settles O16: the reply is queued, and the state it leaves is revoked. -/
theorem revocationFollowsTheOrder : Obligations.RevocationFollowsTheOrder := by
  intro b o rest body l p s hl hlane hip hs hf
  have ended : exec (.orderCompletion b) s = .next (s.endOrder b body) := by simp only [exec, execOrderCompletion, hip]
  have replied : s.handReply o.tag (some b) body = { s with outbound := s.outbound ++ [.reply o.tag (some b) body] } := by
    unfold State.handReply; rw [if_pos hl]
  have revoked := State.revokeIfForced_granted (r := l) (p := p) (b := b)
    (s := (s.handReply o.tag (some b) body).setBank b { s.bank b with lane := rest, inProgress := none })
  have lost := State.revoke_up (b := b) l p
    (s := (s.handReply o.tag (some b) body).setBank b { s.bank b with lane := rest, inProgress := none })
  rw [State.port_setBank, State.bank_setBank_self, State.setBank_setBank, replied] at lost
  rw [State.bank_setBank_self, replied] at revoked
  rw [ended]
  unfold State.endOrder State.settle
  simp only [hlane]
  rw [if_neg (by rw [replied, State.setBank_link, hl]; exact nofun), replied, revoked hs hf rfl, lost hl (lostMerges_reply b _ _ _)]
  simp only [State.setBank_outbound, List.append_assoc]
  rfl

/-- Settles O17: each command waits for what is not there. -/
theorem whatWaitsChangesNothing : Obligations.WhatWaitsChangesNothing := by
  intro b s
  refine ⟨fun ho => ?_, fun ho hf => ?_, fun h early => ?_⟩
  · have opens : execHeadOpen b s = .next s := by
      unfold execHeadOpen
      split
      · next hs => exact absurd hs (BankState.notOpen_shadow ho _ _)
      · rfl
    have refreshes : execHeadRefresh b s = .next s := by
      unfold execHeadRefresh
      split
      · next hs => exact absurd hs (BankState.notOpen_shadow ho _ _)
      · rfl
    exact ⟨opens, refreshes⟩
  · have waits := BankState.beginable_of_forced ho hf
    simp only [List.forall_mem_cons, exec, execHeadOpen, execHeadRead, execHeadWrite, execHeadClose, execHeadRefresh, waits,
      List.not_mem_nil, false_imp_iff, implies_true, and_self]
  · have calm : s.arbiterChoice b early = s := by
      unfold State.arbiterChoice
      dsimp only
      rcases h with h | h | ⟨hf, hm, ha⟩
      · rw [if_neg fun hc => h hc.1]
      · rw [if_neg fun hc => h hc.2]
      · have nothing : (s.bank b).choose s.settings.passoverLimit early = none := by
          unfold BankState.choose BankState.presentClaim
          rw [hf, hm, BankState.laneCandidate_eq_none ha]
          cases early && (s.bank b).claimNew <;> rfl
        rw [nothing]
        split <;> rfl
    simp only [exec, execBankArbiterChoice, calm]

/-! ### The arbiter's choice -/

/-- The arbiter of a CLOSED bank without an order in progress carries out its choice. -/
theorem State.arbiterChoice_eq {early : Bool} {c : Choice} (hs : (s.bank b).shadow = .closed) (hip : (s.bank b).inProgress = none)
    (hc : (s.bank b).choose s.settings.passoverLimit early = some c) :
    exec (.bankArbiterChoice b early) s = .next (s.grant b ((s.bank b).presentClaim early).isSome c) := by
  simp only [exec, execBankArbiterChoice, State.arbiterChoice, hs, hip, hc, and_self, if_true]

/-- Settles O18. -/
theorem forcedClaimIsChosenFirst : Obligations.ForcedClaimIsChosenFirst := by
  intro b early s hs hip hf
  rw [State.arbiterChoice_eq hs hip (BankState.choose_forced _ _ hf)]
  rfl

/-- The head of a lane that is an OPEN or a REFRESH is the lane's candidate. -/
theorem BankState.laneCandidate_refresh {x : BankState} {t : Tag} {rest : List LaneOrder} (h : x.lane = ⟨t, .refresh⟩ :: rest) :
    x.laneCandidate = some .refresh := by
  unfold BankState.laneCandidate; rw [h]

theorem BankState.laneCandidate_opn {x : BankState} {t : Tag} {r : LRow} {rest : List LaneOrder} (h : x.lane = ⟨t, .opn r⟩ :: rest) :
    x.laneCandidate = some (.opn r) := by
  unfold BankState.laneCandidate; rw [h]

/-- Settles O19. -/
theorem refreshIsGranted : Obligations.RefreshIsGranted := by
  intro b t rest early s hs hip hf hlane waits hw
  rw [State.arbiterChoice_eq hs hip (BankState.choose_lane hf (BankState.laneCandidate_refresh hlane) hw),
    BankState.presentClaim_isSome]
  rfl

/-- A notice stands apart from the banks. -/
theorem State.raise_setBank (k : NoticeKind) (c : Option Bank) (r : Option LRow) (d : Detail) (x : BankState) (s : State) :
    (s.raise k c r d).setBank b x = (s.setBank b x).raise k c r d := rfl

/-- An OPEN served to its end while the link is UP (R31): the bank OPEN with the activation counted, and DONE queued. -/
theorem State.serveOpen_up {o : LaneOrder} {rest : List LaneOrder} (r : LRow) (hl : s.link = .up) (hlane : (s.bank b).lane = o :: rest)
    (hip : (s.bank b).inProgress = none) (hf : (s.bank b).forced = false) : s.serveOpen b r =
    let p := (s.bank b).lookupRow r
    let y := (s.bank b).counted s.settings.threshold p
    let u : State := { (s.port [.activate b p]).setBank b { s.bank b with
        shadow := .opened r p, revoked := false, lane := rest, tracker := y.tracker, targets := y.targets } with
      outbound := s.outbound ++ [.reply o.tag (some b) .done] }
    if offers (s.bank b).tracker s.settings.threshold p && decide (offerOf (s.bank b).targets p = .refused) then
      u.raise .targetOverflow (some b) none (.phys p) else u := by
  have cleared := State.activate_eq (s.setBank b { s.bank b with revoked := false }) b ((s.bank b).lookupRow r)
  obtain ⟨htr, htg⟩ := BankState.counted_congr (x := { s.bank b with revoked := false }) (y := s.bank b) s.settings.threshold
    ((s.bank b).lookupRow r) rfl rfl
  dsimp only at cleared
  rw [State.bank_setBank_self, State.port_setBank, State.setBank_setBank, State.setBank_settings, htr, htg] at cleared
  unfold State.serveOpen
  dsimp only
  rw [cleared]
  have ended (v : State) (x : BankState) (hv : v.link = .up) (hx : x.lane = o :: rest) (hxi : x.inProgress = none) (hxf : x.forced = false) :=
    State.endOrder_changed (s := v) (b := b) (body := .done) hv hx hxi fun h => BankState.notOpen_of_not_forced (p := x.isOpen = false) hxf h
  split
  · rw [State.raise_bank, State.bank_setBank_self, State.raise_setBank, State.setBank_setBank, ← State.raise_setBank, ended]
    · rfl
    all_goals assumption
  · rw [State.bank_setBank_self, State.setBank_setBank, ended]
    · rfl
    all_goals assumption

/-- Settles O20: the choice of the lane's OPEN, served to its end. -/
theorem openIsServed : Obligations.OpenIsServed := by
  intro b t r rest early s hl hs hip hf hlane waits hw
  dsimp only
  rw [State.arbiterChoice_eq hs hip (BankState.choose_lane hf (BankState.laneCandidate_opn hlane) hw), BankState.presentClaim_isSome]
  show Host.Outcome.next (State.serveOpen b r (s.setBank b { s.bank b with
    passover := if waits then (s.bank b).passover + 1 else (s.bank b).passover, claimNew := false })) = _
  obtain ⟨htr, htg⟩ := BankState.counted_congr (x := { s.bank b with
      passover := if waits then (s.bank b).passover + 1 else (s.bank b).passover, claimNew := false }) (y := s.bank b)
    s.settings.threshold ((s.bank b).lookupRow r) rfl rfl
  have served := State.serveOpen_up (b := b) (o := ⟨t, .opn r⟩) (rest := rest) (s := s.setBank b { s.bank b with
      passover := if waits then (s.bank b).passover + 1 else (s.bank b).passover, claimNew := false }) r hl
  rw [State.bank_setBank_self] at served
  rw [served hlane hip hf]
  dsimp only
  rw [State.port_setBank, State.setBank_setBank]
  have lookup : BankState.lookupRow { s.bank b with
      passover := if waits then (s.bank b).passover + 1 else (s.bank b).passover, claimNew := false } r = (s.bank b).lookupRow r := rfl
  rw [State.setBank_settings, lookup, htr, htg]
  rfl

/-! ### The migration claim -/

/-- A migration claim found at the passover limit, or with nothing waiting in the lane, is granted. -/
theorem State.arbiterChoice_migration {k : ClaimKind} (hs : (s.bank b).shadow = .closed) (hip : (s.bank b).inProgress = none)
    (hf : (s.bank b).forced = false) (hm : (s.bank b).migClaim = some k)
    (h : s.settings.passoverLimit ≤ (s.bank b).passover ∨ (s.bank b).laneAsks = false) :
    exec (.bankArbiterChoice b false) s = .next (s.grantMigration b k) :=
  State.arbiterChoice_eq hs hip (BankState.choose_migration hf hm (h.imp_right BankState.laneCandidate_eq_none))

/-- The lowest flagged chunk above the pass position. -/
theorem Active.nextFlagged_eq {a : Active} {k : Chunk} (hk : a.mask.get k = true) (hp : ∀ j, a.passPos = some j → j < k)
    (hl : ∀ i : Chunk, i < k → a.mask.get i = true → ∃ j, a.passPos = some j ∧ i ≤ j) : a.nextFlagged = some k := by
  have above (i : Chunk) : abovePos a.passPos i = true ↔ ∀ j, a.passPos = some j → j < i := by
    unfold abovePos
    cases a.passPos with
    | none => exact ⟨fun _ j hj => (nomatch hj), fun _ => rfl⟩
    | some j =>
      rw [decide_eq_true_iff]
      exact ⟨fun h i hi => by cases hi; exact h, fun h => h j rfl⟩
  refine find_finRange_least ?_ fun i hi => ?_
  · rw [hk, (above k).mpr hp]; rfl
  · cases hm : a.mask.get i with
    | false => rfl
    | true =>
      obtain ⟨j, hj, hij⟩ := hl i hi hm
      refine Bool.eq_false_of_not_eq_true fun ha => ?_
      exact absurd ((above i).mp ha j hj) (not_lt.mpr hij)

/-- Settles O22: the grant of each kind of claim. -/
theorem migrationClaimIsGranted : Obligations.MigrationClaimIsGranted := by
  intro b a s hs hip hf ha hb h
  refine ⟨fun hm hp => ?_, fun hm hp k hk hpos hlow => ?_, fun hm => ?_⟩
  · have granted : a.granted = a := by unfold Active.granted; rw [hp]
    rw [State.arbiterChoice_migration hs hip hf hm h]
    simp only [State.grantMigration, ha, Option.map_some, granted]
    rw [← ha]
    rfl
  · have granted : a.granted = { a with mask := a.mask.set k.val false k.isLt, passPos := some k } := by
      unfold Active.granted
      split
      · rw [Active.nextFlagged_eq hk hpos hlow]; rfl
      · next hno => rw [hp] at hno; cases hno
      · next hno => rw [hp] at hno; cases hno
      · next hno => rw [hp] at hno; cases hno
    rw [State.arbiterChoice_migration hs hip hf hm h]
    simp only [State.grantMigration, ha, Option.map_some, granted]
  · rw [State.arbiterChoice_migration hs hip hf hm h]
    rfl

/-- A SWITCH claim granted to the active job. -/
theorem State.grantMigration_switch {a : Active} (ha : s.active = some a) (hb : a.bank = b) : s.grantMigration b .switch =
    (s.setBank b { s.bank b with migClaim := none, claimNew := false, passover := 0, shadow := .claimed .switch }).switchJob a := by
  simp only [State.grantMigration, ha, hb, if_true]

/-- The mask is empty when no flag is set. -/
theorem Active.maskEmpty_iff {a : Active} : a.maskEmpty = true ↔ ∀ k : Chunk, a.mask.get k = false := by
  simp [Active.maskEmpty, Active.flagged, List.isEmpty_iff, List.filter_eq_nil_iff]

/-- Settles O23: the switch of each kind of job. -/
theorem switchIsTaken : Obligations.SwitchIsTaken := by
  intro b a d e s hs hip hf ha hb h hm hmask ht hd hr
  subst hb
  have empty : a.maskEmpty = true := Active.maskEmpty_iff.mpr hmask
  have hrec : BankState.recOf { s.bank a.bank with migClaim := none, claimNew := false, passover := 0, shadow := .claimed .switch } a.row
      = some (d, e) := BankState.recOf_eq (x := s.bank a.bank) ht hd hr
  have taken : exec (.bankArbiterChoice a.bank false) s = .next ((s.setBank a.bank
      { s.bank a.bank with migClaim := none, claimNew := false, passover := 0, shadow := .claimed .switch }).takeSwitch a) := by
    rw [State.arbiterChoice_migration hs hip hf hm h, State.grantMigration_switch ha rfl, State.switchJob, if_pos empty]
  rw [taken]
  unfold State.takeSwitch State.switchRecord
  rw [State.bank_setBank_self, hrec]
  refine ⟨fun old hk hst => ?_, fun hk hst => ?_⟩
  · rw [hk]
    dsimp only
    rw [hst]
    dsimp only
    rw [State.closeBank, State.raise_bank, State.bank_setBank_self, State.raise_setBank, State.setBank_setBank, State.setBank_setBank,
      ← hs]
    rcases old with _ | ⟨f, retire⟩ <;> rfl
  · rw [hk]
    dsimp only
    rw [hst]
    dsimp only
    rw [State.closeBank, State.raise_bank, State.bank_setBank_self, State.raise_setBank, State.setBank_setBank, State.setBank_setBank,
      ← hs]
    rfl

/-- Settles O24: the check fails, and the abort or the recopy limit decides. -/
theorem failedMaskCheck : Obligations.FailedMaskCheck := by
  intro b a s hs hip hf ha hb h hm hmask
  subst hb
  have flagged : ¬ a.maskEmpty = true := by
    obtain ⟨k, hk⟩ := hmask
    intro he
    rw [Active.maskEmpty_iff.mp he k] at hk
    cases hk
  rw [State.arbiterChoice_migration hs hip hf hm h, State.grantMigration_switch ha rfl, State.switchJob, if_neg flagged]
  have closed : State.closeBank a.bank (s.setBank a.bank
      { s.bank a.bank with migClaim := none, claimNew := false, passover := 0, shadow := .claimed .switch })
        = s.setBank a.bank { s.bank a.bank with migClaim := none, claimNew := false, passover := 0 } := by
    rw [State.closeBank, State.bank_setBank_self, State.setBank_setBank]
    rw [← hs]
  have placed (o : Option Active) (k : ClaimKind) : State.placeClaim a.bank k { s.setBank a.bank
      { s.bank a.bank with migClaim := none, claimNew := false, passover := 0 } with active := o }
        = { s.setBank a.bank { s.bank a.bank with migClaim := some k, claimNew := true, passover := 0 } with active := o } := by
    have self : State.bank { s.setBank a.bank { s.bank a.bank with migClaim := none, claimNew := false, passover := 0 } with active := o } a.bank
      = { s.bank a.bank with migClaim := none, claimNew := false, passover := 0 } := State.bank_setBank_self ..
    unfold State.placeClaim
    rw [self]
    dsimp only
    rw [decide_eq_true hs]
    have twice := State.setBank_setBank s a.bank { s.bank a.bank with migClaim := none, claimNew := false, passover := 0 }
      { s.bank a.bank with migClaim := some k, claimNew := true, passover := 0 }
    exact congrArg (fun u : State => { u with active := o }) twice
  rw [closed]
  unfold State.checkFailed State.beginPass State.enter
  by_cases hab : a.abort = true
  · rw [if_pos hab, if_pos (.inl hab), placed]
  · rw [if_neg hab]
    by_cases hlt : a.passesDone < s.settings.recopyLimit
    · rw [if_pos (by exact hlt), if_neg (by rintro (h | h); exacts [hab h, absurd hlt (not_lt.mpr h)]), placed]
    · rw [if_neg (by exact hlt), if_pos (.inr (not_lt.mp hlt)), placed]

end

end Sys2Proof.Machine
end

section
/-! The encodings, byte by byte: orders, requests, messages and fuse slots (O53). -/
namespace Sys2Proof.Machine
open Sys2Proof

/-! ### Numbers in bytes -/

/-- A byte holds a number below n exactly when it is that number's byte. -/
theorem toFin?_byte {n : Nat} (hn : n ≤ 256) {x : Byte} {i : Fin n} : toFin? n x.toNat = some i ↔ x = byteOf i.val := by
  rw [toFin?_eq_some]
  have hi := i.isLt
  constructor
  · intro h
    apply BitVec.eq_of_toNat_eq
    rw [← h]
    simp only [byteOf, BitVec.toNat_ofNat]
    have := x.isLt
    omega
  · rintro rfl
    simp only [byteOf, BitVec.toNat_ofNat]
    omega

/-- Two bytes as one number. -/
theorem be16_toNat (hi lo : Byte) : (be16 hi lo).toNat = hi.toNat * 256 + lo.toNat := by
  have := lo.isLt
  simp only [be16, BitVec.toNat_append]
  rw [← Nat.shiftLeft_add_eq_or_of_lt this, Nat.shiftLeft_eq]

/-- Two bytes are a row's field exactly when they are its two bytes with bit 15 clear. -/
theorem rowField_eq_some {hi lo : Byte} {r : LRow} : rowField hi lo = some r ↔ [hi, lo] = twoBytes r.val := by
  unfold rowField twoBytes
  rw [toFin?_eq_some, be16_toNat]
  have hr := r.isLt
  have h1 := hi.isLt
  have h2 := lo.isLt
  simp only [List.cons.injEq, and_true, byteOf]
  constructor
  · intro h
    constructor <;> apply BitVec.eq_of_toNat_eq <;> simp only [BitVec.toNat_ofNat] <;> omega
  · rintro ⟨rfl, rfl⟩
    simp only [BitVec.toNat_ofNat]
    omega

/-- A 16-bit field is its two bytes. -/
theorem be16_eq_iff {hi lo : Byte} {v : BitVec 16} : be16 hi lo = v ↔ hi = v.extractLsb' 8 8 ∧ lo = v.extractLsb' 0 8 := by
  have h1 := hi.isLt
  have h2 := lo.isLt
  have hv := v.isLt
  constructor
  · rintro rfl
    constructor <;> apply BitVec.eq_of_toNat_eq <;>
      simp only [BitVec.extractLsb'_toNat, be16_toNat, Nat.shiftRight_eq_div_pow] <;> omega
  · rintro ⟨rfl, rfl⟩
    apply BitVec.eq_of_toNat_eq
    rw [be16_toNat]
    simp only [BitVec.extractLsb'_toNat, Nat.shiftRight_eq_div_pow]
    omega

/-! ### Bursts in bytes -/

/-- A byte joined to a word behind the bytes before it. -/
theorem getLsbD_joinByte (acc : BitVec 64) (b : Byte) (i : Nat) : ((acc <<< 8) ||| b.setWidth 64).getLsbD i =
    (decide (i < 64) && if i < 8 then b.getLsbD i else acc.getLsbD (i - 8)) := by
  simp only [BitVec.getLsbD_or, BitVec.getLsbD_shiftLeft, BitVec.getLsbD_setWidth]
  by_cases h : i < 8
  · simp [h]
  · have : b.getLsbD i = false := BitVec.getLsbD_of_ge _ _ (by omega)
    simp [h, this]

/-- Bit i of a word of eight bytes is bit i % 8 of the byte that holds it. -/
theorem wordOfBytes_getLsbD (a b c d e f g h : Byte) (i : Nat) (hi : i < 64) : (wordOfBytes [a, b, c, d, e, f, g, h]).getLsbD i =
    ([h, g, f, e, d, c, b, a].getD (i / 8) 0).getLsbD (i % 8) := by
  simp only [wordOfBytes, List.foldl_cons, List.foldl_nil]
  interval_cases i <;> simp only [getLsbD_joinByte] <;> rfl

theorem wordOfBytes_bytesOfWord (w : BitVec 64) : wordOfBytes (bytesOfWord w) = w := by
  apply BitVec.eq_of_getLsbD_eq
  intro i hi
  rw [bytesOfWord, wordOfBytes_getLsbD _ _ _ _ _ _ _ _ i hi]
  interval_cases i <;> simp

theorem bytesOfWord_wordOfBytes (a b c d e f g h : Byte) : bytesOfWord (wordOfBytes [a, b, c, d, e, f, g, h]) = [a, b, c, d, e, f, g, h] := by
  have byte (k : Nat) (hk : k < 8) : (wordOfBytes [a, b, c, d, e, f, g, h]).extractLsb' (8 * k) 8 = [h, g, f, e, d, c, b, a].getD k 0 := by
    apply BitVec.eq_of_getLsbD_eq
    intro j hj
    rw [BitVec.getLsbD_extractLsb', wordOfBytes_getLsbD _ _ _ _ _ _ _ _ _ (by omega)]
    have h1 : (8 * k + j) / 8 = k := by omega
    have h2 : (8 * k + j) % 8 = j := by omega
    rw [h1, h2, decide_eq_true hj, Bool.true_and]
  unfold bytesOfWord
  rw [byte 0 (by omega), byte 1 (by omega), byte 2 (by omega), byte 3 (by omega), byte 4 (by omega), byte 5 (by omega), byte 6 (by omega),
    byte 7 (by omega)]
  rfl

theorem bytesOfWord_getElem? (w : BitVec 64) (j : Fin 8) : (bytesOfWord w)[j.val]? = some (w.extractLsb' (56 - 8 * j.val) 8) := by
  fin_cases j <;> rfl

theorem bytesOfWord_wordOfBytes_of_length {l : List Byte} (h : l.length = 8) : bytesOfWord (wordOfBytes l) = l := by
  match l, h with
  | [a, b, c, d, e, f, g, i], _ => exact bytesOfWord_wordOfBytes a b c d e f g i

/-- The words of a burst, one by one. -/
theorem burst_toList (v : Burst) : v.toList = [v.get 0, v.get 1, v.get 2, v.get 3, v.get 4, v.get 5, v.get 6, v.get 7] :=
  (vector8_toList v).trans rfl

theorem bytesOfBurst_eq (v : Burst) : bytesOfBurst v =
    bytesOfWord (v.get 0).data ++ (bytesOfWord (v.get 1).data ++ (bytesOfWord (v.get 2).data ++ (bytesOfWord (v.get 3).data
      ++ (bytesOfWord (v.get 4).data ++ (bytesOfWord (v.get 5).data ++ (bytesOfWord (v.get 6).data ++ (bytesOfWord (v.get 7).data
        ++ [(v.get 0).check, (v.get 1).check, (v.get 2).check, (v.get 3).check, (v.get 4).check, (v.get 5).check, (v.get 6).check,
            (v.get 7).check]))))))) := by
  unfold bytesOfBurst
  rw [burst_toList]
  simp only [List.flatMap_cons, List.flatMap_nil, List.map_cons, List.map_nil, List.append_assoc, List.append_nil]

theorem bytesOfBurst_length (v : Burst) : (bytesOfBurst v).length = 72 := by
  rw [bytesOfBurst_eq]; rfl

theorem bytesOfBurst_check (v : Burst) (i : Fin 8) : (bytesOfBurst v)[64 + i.val]? = some (v.get i).check := by
  rw [bytesOfBurst_eq]; fin_cases i <;> rfl

theorem bytesOfBurst_data (v : Burst) (i j : Fin 8) :
    (bytesOfBurst v)[8 * i.val + j.val]? = some ((v.get i).data.extractLsb' (56 - 8 * j.val) 8) := by
  rw [bytesOfBurst_eq, ← bytesOfWord_getElem?]
  fin_cases i <;> fin_cases j <;> rfl

/-- Two words are equal when their bytes are. -/
theorem word_eq_of_bytes {w w' : BitVec 64} (h : bytesOfWord w = bytesOfWord w') : w = w' := by
  rw [← wordOfBytes_bytesOfWord w, h, wordOfBytes_bytesOfWord]

theorem burstOfBytes_get (l : List Byte) (i : Fin 8) : (burstOfBytes l).get i =
    { data := wordOfBytes ((l.drop (8 * i.val)).take 8), check := l.getD (64 + i.val) 0 } := by
  unfold burstOfBytes
  rw [vget_eq, Vector.getElem_ofFn]

/-- The 72 bytes read as a burst are the burst's bytes. -/
theorem bytesOfBurst_burstOfBytes {l : List Byte} (h : l.length = 72) : bytesOfBurst (burstOfBytes l) = l := by
  apply List.ext_getElem?
  intro n
  by_cases hn : n < 72
  · by_cases hd : n < 64
    · have split : n = 8 * (⟨n / 8, by omega⟩ : Fin 8).val + (⟨n % 8, by omega⟩ : Fin 8).val := by simp only; omega
      rw [split, bytesOfBurst_data, burstOfBytes_get, ← bytesOfWord_getElem?, bytesOfWord_wordOfBytes_of_length (by simp; omega),
        List.getElem?_take_of_lt (by simp only; omega), List.getElem?_drop]
    · have split : n = 64 + (⟨n - 64, by omega⟩ : Fin 8).val := by simp only; omega
      rw [split, bytesOfBurst_check, burstOfBytes_get]
      simp only [List.getD_eq_getElem?_getD]
      rw [List.getElem?_eq_getElem (by omega)]
      rfl
  · rw [List.getElem?_eq_none (by rw [bytesOfBurst_length]; omega), List.getElem?_eq_none (by omega)]

/-- The burst of a burst's bytes. -/
theorem burstOfBytes_bytesOfBurst (v : Burst) : burstOfBytes (bytesOfBurst v) = v := by
  have bytes := bytesOfBurst_burstOfBytes (bytesOfBurst_length v)
  generalize burstOfBytes (bytesOfBurst v) = w at bytes
  have words (i : Fin 8) : w.get i = v.get i := by
    have data : (w.get i).data = (v.get i).data := by
      refine word_eq_of_bytes (List.ext_getElem? fun n => ?_)
      by_cases hn : n < 8
      · have h := bytesOfBurst_data w i ⟨n, hn⟩
        rw [bytes, bytesOfBurst_data] at h
        rw [bytesOfWord_getElem? _ ⟨n, hn⟩, bytesOfWord_getElem? _ ⟨n, hn⟩]
        exact h.symm
      · rw [List.getElem?_eq_none (by simp [bytesOfWord]; omega), List.getElem?_eq_none (by simp [bytesOfWord]; omega)]
    have check : (w.get i).check = (v.get i).check := by
      have h := bytesOfBurst_check w i
      rw [bytes, bytesOfBurst_check] at h
      exact (Option.some.inj h).symm
    cases hw : w.get i
    cases hv : v.get i
    rw [hw, hv] at data check
    cases data
    cases check
    rfl
  exact Vector.ext fun i hi => by simpa [vget_eq] using words ⟨i, hi⟩

/-! ### Orders -/

/-- The fields of an order for a bank unit are read as it and as nothing else. -/
theorem parseBankOp_eq_some {kind : Byte} {fields : List Byte} {b : Bank} {op : BankOp} :
    parseBankOp kind fields = some (b, op) ↔ kind = bankOpKind op ∧ fields = byteOf b.val :: bankOpFields op := by
  have bank {x : Byte} : toFin? 48 x.toNat = some b ↔ x = byteOf b.val := toFin?_byte (by omega)
  have col {x : Byte} {c : Col} : toFin? 64 x.toNat = some c ↔ x = byteOf c.val := toFin?_byte (by omega)
  constructor
  · intro h
    unfold parseBankOp at h
    split at h
    · next hk =>
      split at h
      · simp only [Option.bind_eq_bind, Option.bind_eq_some_iff, Option.pure_def, Option.some.injEq, Prod.mk.injEq] at h
        obtain ⟨b', hb, r, hr, rfl, rfl⟩ := h
        rw [bank.mp hb, rowField_eq_some.mp hr]
        exact ⟨hk, rfl⟩
      · cases h
    · split at h
      · next hk =>
        split at h
        · simp only [Option.bind_eq_bind, Option.bind_eq_some_iff, Option.pure_def, Option.some.injEq, Prod.mk.injEq] at h
          obtain ⟨b', hb, c, hc, rfl, rfl⟩ := h
          rw [bank.mp hb, col.mp hc]
          exact ⟨hk, rfl⟩
        · cases h
      · split at h
        · next hk =>
          split at h
          · split at h
            · next hlen =>
              simp only [Option.bind_eq_bind, Option.bind_eq_some_iff, Option.pure_def, Option.some.injEq, Prod.mk.injEq] at h
              obtain ⟨b', hb, c, hc, rfl, rfl⟩ := h
              rw [bank.mp hb, col.mp hc, bankOpFields, bytesOfBurst_burstOfBytes hlen]
              exact ⟨hk, rfl⟩
            · cases h
          · cases h
        · split at h
          · next hk =>
            split at h
            · simp only [Option.bind_eq_bind, Option.bind_eq_some_iff, Option.pure_def, Option.some.injEq, Prod.mk.injEq] at h
              obtain ⟨b', hb, rfl, rfl⟩ := h
              rw [bank.mp hb]
              exact ⟨hk, rfl⟩
            · cases h
          · split at h
            · next hk =>
              split at h
              · simp only [Option.bind_eq_bind, Option.bind_eq_some_iff, Option.pure_def, Option.some.injEq, Prod.mk.injEq] at h
                obtain ⟨b', hb, rfl, rfl⟩ := h
                rw [bank.mp hb]
                exact ⟨hk, rfl⟩
              · cases h
            · cases h
  · rintro ⟨rfl, rfl⟩
    have hb := bank.mpr rfl
    cases op with
    | opn r =>
      have hr : rowField (byteOf (r.val / 256)) (byteOf r.val) = some r := rowField_eq_some.mpr rfl
      simp [parseBankOp, bankOpKind, bankOpFields, twoBytes, hb, hr]
    | read c =>
      have hc := (col (c := c)).mpr rfl
      simp [parseBankOp, bankOpKind, bankOpFields, hb, hc, kindRead, kindOpen]
    | write c v =>
      have hc := (col (c := c)).mpr rfl
      simp [parseBankOp, bankOpKind, bankOpFields, hb, hc, kindRead, kindOpen, kindWrite, bytesOfBurst_length,
        burstOfBytes_bytesOfBurst]
    | close => simp [parseBankOp, bankOpKind, bankOpFields, hb, kindRead, kindOpen, kindWrite, kindClose]
    | refresh => simp [parseBankOp, bankOpKind, bankOpFields, hb, kindRead, kindOpen, kindWrite, kindClose, kindRefresh]

theorem parseReportKind_eq_some {x : Byte} {k : ReportKind} : parseReportKind x = some k ↔ x = reportKindByte k := by
  unfold parseReportKind
  split
  · next h => subst h; cases k <;> decide
  · next h1 =>
    split
    · next h => subst h; cases k <;> decide
    · next h2 =>
      cases k with
      | corrected => exact iff_of_false nofun h1
      | uncorrected => exact iff_of_false nofun h2

/-- A frame is read as an order exactly when it is that order's frame (R53, R176). -/
theorem parseOrder_eq_some {k : Byte} {rest : List Byte} {o : Order} : parseOrder k rest = some o ↔ k = orderKind o ∧ rest = orderRest o := by
  have tag {x : Byte} {g : Tag} : toFin? 64 x.toNat = some g ↔ x = byteOf g.val := toFin?_byte (by omega)
  have bank {x : Byte} {b : Bank} : toFin? 48 x.toNat = some b ↔ x = byteOf b.val := toFin?_byte (by omega)
  constructor
  · intro h
    unfold parseOrder at h
    split at h
    · cases h
    · split at h
      · next hk =>
        split at h
        · simp only [Option.bind_eq_bind, Option.bind_eq_some_iff, Option.pure_def, Option.some.injEq] at h
          obtain ⟨g, hg, b, hb, r, hr, kk, hkk, rfl⟩ := h
          refine ⟨hk, ?_⟩
          rw [tag.mp hg, bank.mp hb, orderRest, ← rowField_eq_some.mp hr, parseReportKind_eq_some.mp hkk]
          rfl
        · cases h
      · simp only [Option.bind_eq_bind, Option.bind_eq_some_iff, Option.pure_def, Option.some.injEq] at h
        obtain ⟨g, hg, ⟨b, op⟩, hop, rfl⟩ := h
        obtain ⟨hk, hf⟩ := parseBankOp_eq_some.mp hop
        exact ⟨hk, by rw [tag.mp hg, hf]; rfl⟩
  · rintro ⟨rfl, rfl⟩
    cases o with
    | bank g b op =>
      have hop : parseBankOp (bankOpKind op) (byteOf b.val :: bankOpFields op) = some (b, op) := parseBankOp_eq_some.mpr ⟨rfl, rfl⟩
      have hk : bankOpKind op ≠ kindReport := by
        cases op <;> simp [bankOpKind, kindReport, kindOpen, kindRead, kindWrite, kindClose, kindRefresh]
      have hg := (tag (g := g)).mpr rfl
      simp [parseOrder, orderKind, orderRest, hk, hg, hop]
    | report g b r k =>
      have hr : rowField (byteOf (r.val / 256)) (byteOf r.val) = some r := rowField_eq_some.mpr rfl
      have hg := (tag (g := g)).mpr rfl
      have hb := (bank (b := b)).mpr rfl
      have hk := (parseReportKind_eq_some (k := k)).mpr rfl
      simp [parseOrder, orderKind, orderRest, twoBytes, hg, hb, hr, hk]

/-! ### Requests -/

theorem byte_eq_of_toNat {x : Byte} {n : Nat} (h : x.toNat = n) : x = byteOf n := by
  rw [← h]
  exact BitVec.eq_of_toNat_eq (by simp [byteOf])

theorem fieldBytes_be16 (hi lo : Byte) : fieldBytes (be16 hi lo) = [hi, lo] := by
  obtain ⟨h1, h2⟩ := be16_eq_iff.mp (rfl : be16 hi lo = be16 hi lo)
  unfold fieldBytes hi8 lo8
  rw [← h1, ← h2]

theorem be16_fieldBytes (v : BitVec 16) : be16 (hi8 v) (lo8 v) = v := be16_eq_iff.mpr ⟨rfl, rfl⟩

/-- No code of 18 or more is a request's. -/
theorem parseFields_eq_none {code : Byte} {fields : List Byte} (h : 18 ≤ code.toNat) : parseFields code fields = none := by
  obtain ⟨m, hm⟩ := Nat.exists_eq_add_of_le' h
  unfold parseFields
  rw [hm]
  rcases fields with _ | ⟨a, _ | ⟨b, _ | ⟨c, _ | ⟨d, l⟩⟩⟩⟩ <;> rfl

theorem code_fields_of_parseFields {code : Byte} {fields : List Byte} {q : Request} (h : parseFields code fields = some q) :
    code = q.code ∧ fields = q.fields := by
  have range : code.toNat < 18 := by
    by_contra hge
    rw [parseFields_eq_none (by omega)] at h
    cases h
  unfold parseFields at h
  rcases fields with _ | ⟨a, _ | ⟨b, _ | ⟨c, _ | ⟨d, l⟩⟩⟩⟩
  all_goals
    generalize hn : code.toNat = n at h range
    have hc := byte_eq_of_toNat hn
    interval_cases n <;> cases h
  all_goals
    refine ⟨hc, ?_⟩
    simp only [Request.fields, fieldBytes_be16]

theorem parseFields_code_fields (q : Request) : parseFields q.code q.fields = some q := by
  have field (f : BitVec 16 → Request) (v : BitVec 16) : some (f (be16 (hi8 v) (lo8 v))) = some (f v) := by rw [be16_fieldBytes]
  cases q with
  | lookup b r => exact field (.lookup b) r
  | steer b r => exact field (.steer b) r
  | release b r => exact field (.release b) r
  | forget b r => exact field (.forget b) r
  | set i v => exact field (.set i) v
  | status | list _ | bank _ | void _ _ _ | suspects | forgetAll | fuse _ | get _ | noticeTop | noticeAck _ | mask _ _ => rfl
  | _ => exact field (.seal _) _

/-- The fields of a request are read as it and as nothing else (R177). -/
theorem parseFields_eq_some {code : Byte} {fields : List Byte} {q : Request} :
    parseFields code fields = some q ↔ code = q.code ∧ fields = q.fields :=
  ⟨code_fields_of_parseFields, by rintro ⟨rfl, rfl⟩; exact parseFields_code_fields q⟩

theorem request_fields_length_le (q : Request) : q.fields.length ≤ 3 := by
  cases q <;> simp [Request.fields, fieldBytes]

/-- A frame of three bytes or more is read as the request whose frame it is (R177). -/
theorem parseRequestFrame_eq (code xn n : Byte) (fields : List Byte) : ∃ x, parseRequestFrame (code :: xn :: n :: fields) = some (code, xn, x)
    ∧ ∀ q, x = some q ↔ code :: xn :: n :: fields = requestFrame xn q := by
  refine ⟨_, rfl, fun q => ?_⟩
  have short := request_fields_length_le q
  unfold requestFrame
  simp only [List.cons.injEq, true_and]
  constructor
  · intro h
    split at h
    · next hn =>
      obtain ⟨hc, rfl⟩ := parseFields_eq_some.mp h
      exact ⟨hc, byte_eq_of_toNat hn, rfl⟩
    · cases h
  · rintro ⟨hc, hn, rfl⟩
    have len : n.toNat = q.fields.length := by
      rw [hn, byteOf, BitVec.toNat_ofNat]
      omega
    rw [if_pos len]
    exact parseFields_eq_some.mpr ⟨hc, rfl⟩

/-! ### Fuse slots -/

/-- The entry of four bytes is the one whose bytes they are (R139, R179). -/
theorem parseEntry_eq_some {b1 b2 b3 b4 : Byte} {e : FuseEntry} : parseEntry b1 b2 b3 b4 = some e ↔ (b1, b2, b3, b4) = entryBytes e := by
  have low (b1 : Byte) : (b1.extractLsb' 0 6).toNat = b1.toNat % 64 := by simp [BitVec.extractLsb'_toNat]
  have high (b1 : Byte) : (b1.extractLsb' 6 2).toNat = b1.toNat / 64 := by
    have := b1.isLt
    simp only [BitVec.extractLsb'_toNat, Nat.shiftRight_eq_div_pow]
    omega
  have kind (b1 : Byte) (k : BitVec 2) : b1.extractLsb' 6 2 = k ↔ b1.toNat / 64 = k.toNat := by
    rw [← high]; exact ⟨congrArg _, BitVec.eq_of_toNat_eq⟩
  have spare {x : Byte} {d : Spare} : toFin? 8 x.toNat = some d ↔ x = byteOf d.val := toFin?_byte (by omega)
  unfold parseEntry
  simp only [Option.bind_eq_bind, Option.bind_eq_some_iff, Option.pure_def, low, kind, toFin?_eq_some (n := 48)]
  constructor
  · rintro ⟨b, hb, d, hd, r, hr, h⟩
    have lt := b1.isLt
    split at h
    · next hk =>
      cases h
      have h1 : b1 = byteOf (64 + b.val) := byte_eq_of_toNat (by simp at hk; omega)
      rw [entryBytes, h1, spare.mp hd]
      obtain ⟨rfl, rfl⟩ : b3 = _ ∧ b4 = _ := by simpa [twoBytes] using rowField_eq_some.mp hr
      rfl
    · split at h
      · next hk =>
        cases h
        obtain ⟨hk, rfl⟩ := hk
        have h1 : b1 = byteOf (128 + b.val) := byte_eq_of_toNat (by simp at hk; omega)
        rw [entryBytes, h1, spare.mp hd]
        obtain ⟨rfl, rfl⟩ : b3 = _ ∧ b4 = _ := by simpa [twoBytes] using rowField_eq_some.mp hr
        rfl
      · cases h
  · cases e with
    | row b r d =>
      rintro ⟨⟩
      have hb : (byteOf (64 + b.val)).toNat = 64 + b.val := by simp [byteOf]; omega
      refine ⟨b, by rw [hb]; omega, d, spare.mpr rfl, r, rowField_eq_some.mpr rfl, ?_⟩
      rw [if_pos (by rw [hb]; simp; omega)]
    | void b d =>
      rintro ⟨⟩
      have hb : (byteOf (128 + b.val)).toNat = 128 + b.val := by simp [byteOf]; omega
      refine ⟨b, by rw [hb]; omega, d, spare.mpr rfl, 0, rowField_eq_some.mpr rfl, ?_⟩
      rw [if_neg (by rw [hb]; simp; omega), if_pos ⟨by rw [hb]; simp; omega, rfl⟩]

/-- A slot of seven given bytes. -/
theorem fuseBytes_eq_iff {f : FuseBytes} {b0 b1 b2 b3 b4 b5 b6 : Byte} : f = #v[b0, b1, b2, b3, b4, b5, b6] ↔
    f[0] = b0 ∧ f[1] = b1 ∧ f[2] = b2 ∧ f[3] = b3 ∧ f[4] = b4 ∧ f[5] = b5 ∧ f[6] = b6 := by
  constructor
  · rintro rfl
    exact ⟨rfl, rfl, rfl, rfl, rfl, rfl, rfl⟩
  · rintro ⟨h0, h1, h2, h3, h4, h5, h6⟩
    refine Vector.ext fun i hi => ?_
    interval_cases i
    exacts [h0, h1, h2, h3, h4, h5, h6]

/-- A slot reads as an entry exactly when its bytes are the entry's (R139, R179). -/
theorem classify_eq_valid {f : FuseBytes} {e : FuseEntry} : classify f = .valid e ↔ f = encodeSlot e := by
  have encoded : f = encodeSlot e ↔ f[0] = openMark ∧ f[6] = completionMark ∧ f[5] = slotCheck f[1] f[2] f[3] f[4]
      ∧ (f[1], f[2], f[3], f[4]) = entryBytes e := by
    unfold encodeSlot
    rw [fuseBytes_eq_iff]
    constructor
    · rintro ⟨h0, h1, h2, h3, h4, h5, h6⟩
      exact ⟨h0, h6, by rw [h5, h1, h2, h3, h4], by rw [h1, h2, h3, h4]⟩
    · rintro ⟨h0, h6, h5, he⟩
      rw [← he]
      exact ⟨h0, rfl, rfl, rfl, rfl, h5, h6⟩
  rw [encoded, ← parseEntry_eq_some]
  unfold classify
  split
  · next hf =>
    refine iff_of_false nofun fun h => ?_
    have h0 := h.1
    rw [hf] at h0
    exact absurd h0 (by decide)
  · split
    · next hc =>
      obtain ⟨h0, h6, h5⟩ := hc
      cases hp : parseEntry f[1] f[2] f[3] f[4] with
      | none => simp
      | some e' => simp [h0, h6, h5]
    · next hc => exact iff_of_false nofun fun h => hc ⟨h.1, h.2.1, h.2.2.1⟩

/-- A slot is BLANK exactly when its bytes are all 0. -/
theorem classify_eq_blank {f : FuseBytes} : classify f = .blank ↔ f = Vector.replicate 7 0 := by
  unfold classify
  split
  · next h => exact iff_of_true rfl h
  · next h =>
    refine iff_of_false (fun hc => ?_) h
    (repeat' split at hc) <;> cases hc

/-- A slot whose programming stopped has no completion mark (R145). -/
theorem classify_tornSlot (e : FuseEntry) (n : Nat) (m : Byte) : classify (tornSlot e n m) = .spoiled := by
  have first : (tornSlot e n m)[0] = openMark := by simp [tornSlot]
  have last : (tornSlot e n m)[6] = 0 := by simp [tornSlot]
  unfold classify
  rw [if_neg, if_neg]
  · rintro ⟨-, h, -⟩
    rw [last] at h
    exact absurd h (by decide)
  · intro h
    rw [h] at first
    exact absurd first (by decide)

/-- Settles O53: each encoding, with the reading that inverts it. -/
theorem encodingsReadBack : Obligations.EncodingsReadBack := by
  unfold Obligations.EncodingsReadBack
  intro two orderBytes requestFields requestBytes result reason slot slotBytes
  have order (o : Order) : orderKind o :: orderRest o = orderBytes o := by
    cases o with
    | bank t b op => cases op <;> rfl
    | report t b r k => cases k <;> rfl
  have fields (q : Request) : requestFields q = (q.code, q.fields) := by cases q <;> rfl
  have request (xn : Byte) (q : Request) : requestFrame xn q = requestBytes xn q := by
    show _ = (requestFields q).1 :: xn :: byteOf (requestFields q).2.length :: (requestFields q).2
    rw [fields]
    rfl
  have encoded (e : FuseEntry) : encodeSlot e = slotBytes e := by cases e <;> rfl
  refine ⟨fun v => ⟨bytesOfBurst_length v, fun i => ⟨bytesOfBurst_check v i, bytesOfBurst_data v i⟩⟩, fun o => ⟨order o, fun k rest => ?_⟩,
    fun q xn => ⟨request xn q, fun code fs => ?_⟩, fun code xn n fs => ?_, fun f hf => ?_, fun m => ?_, fun xn code r contents => ?_,
    fun e f => ⟨encoded e, ?_, classify_eq_blank⟩, classify_tornSlot⟩
  · rw [parseOrder_eq_some, ← order, List.cons.injEq]
  · rw [parseFields_eq_some, fields, Prod.mk.injEq]
  · simpa only [request] using parseRequestFrame_eq code xn n fs
  · match f, hf with
    | [], _ | [_], _ | [_, _], _ => rfl
  · match m with
    | .reply t _ .done | .reply t _ (.data v) | .ready | .need b | .lost b => rfl
    | .reply t _ (.reject r) | .intakeReject t r => cases r <;> rfl
  · cases r <;> rfl
  · rw [classify_eq_valid, encoded]

end Sys2Proof.Machine
end

section
/-! The order link: frames that arrive, are taken, wait and are rejected (O4 to O7, O10). -/
namespace Sys2Proof.Machine
open Sys2Proof

/-! ### Frames that arrive -/

section
variable {s : State} {k t : Byte} {f rest fields : List Byte} {c : Instr} {r : Reason} {o : Order}

/-- A frame of a known kind arrives by its own command, and its kind is one of 1 to 6. -/
theorem exec_knownFrame (h : (k, c) ∈ knownFrames rest) (s : State) :
    exec c s = .next (s.arrive (k :: rest)) ∧ 1 ≤ k.toNat ∧ k.toNat ≤ 6 := by
  simp only [knownFrames, List.mem_cons, List.not_mem_nil, or_false, Prod.mk.injEq] at h
  rcases h with ⟨rfl, rfl⟩ | ⟨rfl, rfl⟩ | ⟨rfl, rfl⟩ | ⟨rfl, rfl⟩ | ⟨rfl, rfl⟩ | ⟨rfl, rfl⟩ <;> exact ⟨rfl, by decide, by decide⟩

theorem orderCommand_mem (o : Order) : (orderKind o, orderCommand o) ∈ knownFrames (orderRest o) := by
  cases o with
  | bank t b op => cases op <;> simp [knownFrames, orderKind, bankOpKind, orderCommand]
  | report t b r k => simp [knownFrames, orderKind, orderCommand]

theorem exec_orderCommand (o : Order) (s : State) : exec (orderCommand o) s = .next (s.arrive (orderKind o :: orderRest o)) :=
  (exec_knownFrame (orderCommand_mem o) s).1

theorem orderKind_range (o : Order) : 1 ≤ (orderKind o).toNat ∧ (orderKind o).toNat ≤ 6 :=
  (exec_knownFrame (orderCommand_mem o) State.reset).2

theorem ne_linkReset_of_le (h : k.toNat ≤ 6) : k ≠ kindLinkReset := by
  rintro rfl
  exact absurd h (by decide)

theorem State.arrive_taken (hp : s.part ≠ .reset) (hr : s.rejectUnsent = false) : s.arrive f = s.takeFrame f := by
  simp [State.arrive, hp, hr]

theorem State.arrive_waits (hp : s.part ≠ .reset) (hr : s.rejectUnsent = true) : s.arrive f = { s with waiting := s.waiting ++ [f] } := by
  simp [State.arrive, hp, hr]

theorem State.arrive_lost (hp : s.part = .reset) : s.arrive f = s := by
  simp [State.arrive, hp]

theorem State.takeFrame_order (h : k ≠ kindLinkReset) : s.takeFrame (k :: t :: fields) = s.takeOrder k t fields := by
  simp [State.takeFrame, h]

theorem State.takeLinkReset_down (sending : Bool) (h : s.link ≠ .up) : s.takeLinkReset sending = s := by
  rw [State.takeLinkReset, if_neg h]

/-! ### The acceptance checks -/

theorem State.takeOrder_rejected (h : s.orderReject k t fields = some r) : s.takeOrder k t fields = s.rejectOrder k t fields r := by
  unfold State.takeOrder
  rw [h]

theorem State.takeOrder_notReady (h : s.link ≠ .up) :
    s.takeOrder k t fields = { s with outbound := s.outbound ++ [.intakeReject (frameTag t) .notReady] } := by
  rw [State.takeOrder_rejected (r := .notReady) (by rw [State.orderReject, if_pos h])]
  rfl

/-- The checks on an UP link, each met when those before it are passed (R52). -/
theorem State.orderReject_up (hl : s.link = .up)
    (h : 32 ≤ s.held.length ∧ r = .full ∨ s.held.length < 32 ∧ frameTag t ∈ s.held ∧ r = .tagInUse
      ∨ s.held.length < 32 ∧ frameTag t ∉ s.held ∧ parseOrder k (t :: fields) = none ∧ r = .malformed) :
    s.orderReject k t fields = some r ∧ r ≠ .notReady := by
  unfold State.orderReject
  have room (h : s.held.length < 32) : ¬ Config.heldLimit ≤ s.held.length := Nat.not_le.mpr h
  rw [if_neg (by simp [hl])]
  rcases h with ⟨hfull, rfl⟩ | ⟨hroom, htag, rfl⟩ | ⟨hroom, htag, hparse, rfl⟩
  · exact ⟨if_pos hfull, nofun⟩
  · exact ⟨by rw [if_neg (room hroom), if_pos htag], nofun⟩
  · exact ⟨by rw [if_neg (room hroom), if_neg htag, hparse]; rfl, nofun⟩

theorem State.takeOrder_up (hl : s.link = .up)
    (h : 32 ≤ s.held.length ∧ r = .full ∨ s.held.length < 32 ∧ frameTag t ∈ s.held ∧ r = .tagInUse
      ∨ s.held.length < 32 ∧ frameTag t ∉ s.held ∧ parseOrder k (t :: fields) = none ∧ r = .malformed) :
    s.takeOrder k t fields = ({ s with outbound := s.outbound ++ [.intakeReject (frameTag t) r] } : State).raise .orderFault
      (faultBank k fields) (faultRow k fields) (.fault r (some (frameTag t))) := by
  obtain ⟨hr, hne⟩ := State.orderReject_up hl h
  rw [State.takeOrder_rejected hr, State.rejectOrder]
  exact if_neg hne

theorem orderRest_cons (o : Order) : ∃ fields, orderRest o = byteOf (orderTag o).val :: fields := by
  cases o <;> exact ⟨_, rfl⟩

/-- The frame of an order that meets no condition of R52, taken. -/
theorem State.takeFrame_accepted (hl : s.link = .up) (hroom : s.held.length < 32) (htag : orderTag o ∉ s.held) :
    s.takeFrame (orderKind o :: orderRest o) = s.acceptOrder o := by
  have parsed : parseOrder (orderKind o) (orderRest o) = some o := parseOrder_eq_some.mpr ⟨rfl, rfl⟩
  obtain ⟨fields, hrest⟩ := orderRest_cons o
  rw [hrest] at parsed ⊢
  have tag := parseOrder_tag parsed
  have room : ¬ Config.heldLimit ≤ s.held.length := Nat.not_le.mpr hroom
  have passed : s.orderReject (orderKind o) (byteOf (orderTag o).val) fields = none := by
    rw [State.orderReject, if_neg (by simp [hl]), if_neg room, if_neg (tag ▸ htag), parsed]
    rfl
  rw [State.takeFrame_order (ne_linkReset_of_le (orderKind_range o).2), State.takeOrder, passed, parsed]

/-- Settles O4: the frame is read back as the order and meets no check. -/
theorem acceptedOrderJoinsItsLane : Obligations.AcceptedOrderJoinsItsLane := by
  intro o s hp hr hl hroom htag
  rw [exec_orderCommand, State.arrive_taken hp hr, State.takeFrame_accepted hl hroom htag]
  cases o <;> rfl

/-! ### The subject of an ORDER_FAULT -/

theorem low6_toNat (x : Byte) : (x.extractLsb' 0 6).toNat = x.toNat % 64 := by
  simp [BitVec.extractLsb'_toNat]

theorem faultBank_cons {x : Byte} (h : 1 ≤ k.toNat ∧ k.toNat ≤ 6) : faultBank k (x :: rest) = toFin? 48 (x.toNat % 64) := by
  rw [faultBank, if_pos h, low6_toNat]

theorem rowField_none {hi lo : Byte} (h : 0x80 ≤ hi.toNat) : rowField hi lo = none := by
  rw [rowField, be16_toNat]
  exact toFin?_eq_none.mpr (by omega)

theorem faultRow_none (h1 : k ≠ 0x01) (h2 : k ≠ 0x06) : faultRow k fields = none := by
  unfold faultRow
  exact if_neg fun h => h.elim h1 h2

/-- Settles O5: each check, and the two readings of the subject. -/
theorem acceptanceChecks : Obligations.AcceptanceChecks := by
  intro t fields k c s hk hp hr
  obtain ⟨arrives, range⟩ := exec_knownFrame hk s
  have taken : exec c s = .next (s.takeOrder k t fields) := by
    rw [arrives, State.arrive_taken hp hr, State.takeFrame_order (ne_linkReset_of_le range.2)]
  refine ⟨fun hl => ?_, fun hl r h => ?_, ?_, ?_, ?_, ?_, faultRow_none⟩
  · rw [taken, State.takeOrder_notReady hl]
  · rw [taken, State.takeOrder_up hl h]
  · rintro b l rfl
    have hb := b.isLt
    rw [faultBank_cons range, toFin?_eq_some, byteOf, BitVec.toNat_ofNat]
    omega
  · rintro x l rfl hx hx'
    rw [faultBank_cons range]
    exact toFin?_eq_none.mpr (by omega)
  · rintro x r l hopen rfl
    unfold faultRow
    rw [if_pos (show k = kindOpen ∨ k = kindReport from hopen)]
    exact rowField_eq_some.mpr rfl
  · rintro x hi lo l rfl hhi
    unfold faultRow
    split
    · exact rowField_none hhi
    · rfl

/-! ### Frames of no known kind -/

/-- Only the six kinds of Table 11-1 are read as orders. -/
theorem parseOrder_unknown (h : k.toNat = 0 ∨ 6 < k.toNat) : parseOrder k rest = none := by
  rw [Option.eq_none_iff_forall_ne_some]
  intro o ho
  obtain ⟨rfl, -⟩ := parseOrder_eq_some.mp ho
  have := orderKind_range o
  omega

/-- Settles O6: the checks again, with the kind byte that is read as no order. -/
theorem unknownFrames : Obligations.UnknownFrames := by
  intro k s hk hp hr
  have taken (f : List Byte) : exec (.unknownOrderFrame f) s = .next (s.takeFrame f) :=
    congrArg Host.Outcome.next (State.arrive_taken hp hr)
  refine ⟨fun hl => ?_, fun hl => ?_, fun t fields hkind => ⟨fun hl => ?_, fun hl r h => ?_⟩⟩
  · simp only [taken, State.takeFrame, if_neg hk, if_pos hl]
  · simp only [taken, State.takeFrame, if_neg hk, if_neg hl]
  · rw [taken, State.takeFrame_order hk, State.takeOrder_notReady hl]
  · have unread := parseOrder_unknown (rest := t :: fields) hkind
    have noBank : faultBank k fields = none := if_neg (by omega)
    have noRow : faultRow k fields = none := by
      refine faultRow_none ?_ ?_ <;> rintro rfl <;> exact absurd hkind (by decide)
    rw [taken, State.takeFrame_order hk, State.takeOrder_up hl (by tauto), noBank, noRow]

/-- Settles O7: the three outcomes of a frame's arrival. -/
theorem framesThatAreNotTaken : Obligations.FramesThatAreNotTaken := by
  intro rest s
  refine ⟨fun hp hr => ⟨fun k c hk => ?_, fun sending => ?_, ?_⟩, fun hp => ⟨fun k c hk => ?_, fun sending => ?_, ?_⟩, fun hr hl sending => ?_⟩
  · rw [(exec_knownFrame hk s).1, State.arrive_waits hp hr]
  · simp only [exec, execLinkReset, State.arriveLinkReset, if_neg hp, hr, if_true]
  · exact congrArg Host.Outcome.next (State.arrive_waits hp hr)
  · rw [(exec_knownFrame hk s).1, State.arrive_lost hp]
  · simp only [exec, execLinkReset, State.arriveLinkReset, if_pos hp]
  · exact congrArg Host.Outcome.next (State.arrive_lost hp)
  · simp only [exec, execLinkReset, State.arriveLinkReset, hr, State.takeLinkReset_down sending hl, Bool.false_eq_true, if_false, ite_self]

/-! ### The head of the outbound queue -/

theorem State.sendHead_cons {m : OutMsg} {q : List OutMsg} (hq : s.outbound = m :: q) : s.sendHead =
    State.takeWaiting s.waiting (State.freeTag m { s with outbound := q, linkOut := s.linkOut ++ [m.frame] }) := by
  simp only [State.sendHead, hq]

/-- Settles O10: the message sent, and the frames that waited taken one by one. -/
theorem outboundHeadIsSent : Obligations.OutboundHeadIsSent := by
  refine ⟨fun m q s hq => ?_, fun t => ⟨rfl, fun f fs => ⟨fun hr => ?_, fun hr hp => ?_⟩⟩, fun rest t => ⟨fun k c hk => ?_, ?_⟩, ?_⟩
  · dsimp only
    have sent : exec .outboundSend s = .next s.sendHead := rfl
    rw [sent, State.sendHead_cons hq]
    refine ⟨?_, fun hw => ?_⟩
    · cases m <;> rfl
    · rw [hw, State.takeWaiting, ← hw]
      cases m <;> rfl
  · rw [State.takeWaiting, if_pos hr]
  · refine ⟨t.takeFrame f, congrArg Host.Outcome.next (State.arrive_taken hp hr), ?_⟩
    rw [State.takeWaiting, if_neg (by simp [hr])]
  · exact (exec_knownFrame hk t).1.symm
  · simp [exec, execUnknownOrderFrame, execLinkReset, State.arrive, State.arriveLinkReset, State.takeFrame]
  · intro o t r q s hq hnone hw hl hroom htag
    have noReject (u : State) (hu : u.outbound = q) : u.rejectUnsent = false := by
      unfold State.rejectUnsent
      rw [hu, List.any_eq_false]
      intro m hm
      cases m with
      | intakeReject t' r' => exact absurd hm (hnone t' r')
      | reply | ready | need | lost => exact Bool.false_ne_true
    have taken (u : State) (hu : u.outbound = q) (hlu : u.link = .up) (hh : u.held = s.held) :
        State.takeWaiting [orderKind o :: orderRest o] u = { u.acceptOrder o with waiting := [] } := by
      rw [State.takeWaiting, noReject u hu, if_neg Bool.false_ne_true, State.takeFrame_accepted hlu (hh ▸ hroom) (hh ▸ htag),
        State.takeWaiting]
    have sent : exec .outboundSend s = .next s.sendHead := rfl
    rw [sent, State.sendHead_cons hq, hw, taken]
    · cases o <;> rfl
    · rfl
    · exact hl
    · rfl
end

end Sys2Proof.Machine
end

section
/-! The link reset, bank by bank, and its end (O8, O9). -/
namespace Sys2Proof.Machine
open Sys2Proof

section
variable {s : State} {b : Bank}

/-! ### The link's return to UP -/

/-- A bank that stands at or above the urgent level (R68). -/
def State.urgentAt (s : State) (b : Bank) : Bool := decide (s.settings.urgentLevel ≤ (s.bank b).debt)

/-- A bank named behind READY whose NEED does not stand unsent. -/
theorem State.nameNeed_eq (hl : s.link = .up) (hn : OutMsg.need b ∉ s.outbound) : s.nameNeed b =
    { s.setBank b { s.bank b with need := (s.bank b).need || s.urgentAt b } with
      outbound := s.outbound ++ if s.urgentAt b then [.need b] else [] } := by
  unfold State.nameNeed State.urgentAt
  by_cases hu : s.settings.urgentLevel ≤ (s.bank b).debt
  · have hand : s.handNeed b = { s with outbound := s.outbound ++ [.need b] } := by simp [State.handNeed, hl, hn]
    simp only [if_pos hu, hand, decide_eq_true hu, if_true, Bool.or_true]
    rfl
  · simp only [if_neg hu, decide_eq_false hu, Bool.or_false, Bool.false_eq_true, if_false, List.append_nil]
    exact (s.setBank_bank b).symm

/-- The banks of a list named in its order. -/
theorem State.nameNeeds_eq (l : List Bank) (hd : l.Nodup) (s : State) (hl : s.link = .up) (hn : ∀ c ∈ l, OutMsg.need c ∉ s.outbound) :
    (l.foldl (fun s b => s.nameNeed b) s).link = .up
      ∧ (l.foldl (fun s b => s.nameNeed b) s).outbound = s.outbound ++ (l.filter s.urgentAt).map .need
      ∧ ∀ c, (l.foldl (fun s b => s.nameNeed b) s).bank c =
        { s.bank c with need := (s.bank c).need || (decide (c ∈ l) && s.urgentAt c) } := by
  induction l generalizing s with
  | nil => simp [hl]
  | cons b l ih =>
    obtain ⟨hb, hd⟩ := List.nodup_cons.mp hd
    have named := State.nameNeed_eq hl (hn b (List.mem_cons_self ..))
    have bankOf (c : Bank) : (s.nameNeed b).bank c = if c = b then { s.bank b with need := (s.bank b).need || s.urgentAt b } else s.bank c := by
      rw [named]
      exact s.bank_setBank b c _
    have settings : (s.nameNeed b).settings = s.settings := by rw [named]; rfl
    have urgent (c : Bank) : (s.nameNeed b).urgentAt c = s.urgentAt c := by
      unfold State.urgentAt
      rw [bankOf, settings]
      split
      · next h => rw [h]
      · rfl
    obtain ⟨link, out, banks⟩ := ih hd (s.nameNeed b) (by rw [named]; exact hl) fun c hc => by
      rw [named]
      intro hm
      rcases List.mem_append.mp hm with h | h
      · exact hn c (List.mem_cons_of_mem _ hc) h
      · split at h
        · rw [List.mem_singleton] at h
          cases h
          exact hb hc
        · cases h
    refine ⟨link, ?_, fun c => ?_⟩
    · rw [List.foldl_cons, out, funext urgent, named]
      simp only [List.filter_cons]
      split <;> simp
    · rw [List.foldl_cons, banks, urgent, bankOf]
      by_cases hc : c = b
      · subst hc
        simp [hb]
      · simp [hc]

/-- The link's return to UP where no NEED stands unsent (R68). -/
theorem State.linkUp_eq (hn : ∀ c, OutMsg.need c ∉ s.outbound) :
    s.linkUp = { s with link := .up, banks := s.linkUp.banks, outbound := s.outbound ++ .ready :: (allBanks.filter s.urgentAt).map .need }
      ∧ ∀ c, s.linkUp.bank c = { s.bank c with need := (s.bank c).need || s.urgentAt c } := by
  obtain ⟨link, out, banks⟩ := State.nameNeeds_eq allBanks allBanks_nodup { s with link := .up, outbound := s.outbound ++ [.ready] } rfl
    fun c _ h => (List.mem_append.mp h).elim (hn c) (by simp)
  constructor
  · have shape := s.linkUp_frame
    rw [show s.linkUp.link = .up from link, show s.linkUp.outbound = _ from out, List.append_assoc] at shape
    exact shape
  · intro c
    have named := banks c
    rw [decide_eq_true (mem_allBanks c), Bool.true_and] at named
    exact named

theorem State.tryLinkUp_reported (hl : s.link = .resetting) (h : ∀ c, (s.bank c).reported = true) : s.tryLinkUp = s.linkUp := by
  rw [State.tryLinkUp, if_pos ⟨hl, State.allReported_iff.mpr h⟩]

theorem State.tryLinkUp_waits {c : Bank} (h : (s.bank c).reported = false) : s.tryLinkUp = s := by
  rw [State.tryLinkUp, if_neg]
  rintro ⟨-, hall⟩
  have := State.allReported_iff.mp hall c
  rw [h] at this
  cases this

/-- Settles O9: the row is precharged, the bank reports, and the last report brings the link up. -/
theorem linkResetEnds : Obligations.LinkResetEnds := by
  intro b body o rest l p s hl hs hip hlane
  have ended : exec (.orderCompletion b) s = .next ((s.port [.precharge b p]).setBank b
      { s.bank b with shadow := .closed, lane := rest, inProgress := none, reported := true }).tryLinkUp := by
    have reply : s.handReply o.tag (some b) body = s := by simp [State.handReply, hl]
    simp only [exec, execOrderCompletion, hip, State.endOrder, hlane, reply, State.settle, State.setBank_link, hl, if_true,
      State.closeForReset, State.bank_setBank_self, hs, State.port_setBank, State.setBank_setBank]
  rw [ended]
  generalize hu : (s.port [.precharge b p]).setBank b
    { s.bank b with shadow := .closed, lane := rest, inProgress := none, reported := true } = u
  have bankOf (c : Bank) : u.bank c =
      if c = b then { s.bank b with shadow := .closed, lane := rest, inProgress := none, reported := true } else s.bank c := by
    rw [← hu]
    exact State.bank_setBank _ _ _ _
  refine ⟨fun ⟨c, hc, hr⟩ => ?_, fun hr hn => ⟨_, rfl, ?_⟩⟩
  · rw [State.tryLinkUp_waits (c := c) (by rw [bankOf, if_neg hc]; exact hr)]
  · have urgent : u.urgentAt = s.urgentAt := funext fun c => by
      unfold State.urgentAt
      rw [bankOf, ← hu]
      split
      · next h => rw [h]; rfl
      · rfl
    have link : u.link = .resetting := by rw [← hu]; exact hl
    rw [State.tryLinkUp_reported link fun c => by rw [bankOf]; split <;> [rfl; exact hr c ‹_›]]
    obtain ⟨shape, banks⟩ := State.linkUp_eq (s := u) fun c => by rw [← hu]; exact hn c
    rw [urgent] at shape
    refine ⟨?_, ?_, fun c hc => ?_⟩
    · refine shape.trans ?_
      rw [← hu]
      rfl
    · rw [banks, urgent, bankOf, if_pos rfl]
      rfl
    · rw [banks, urgent, bankOf, if_neg hc]
      rfl

/-! ### The banks told of a link reset -/

/-- What a bank unit with no READ or WRITE in progress does at the stack port for a link reset (R44, R46). -/
def BankState.resetOps (b : Bank) (x : BankState) : List StackOp :=
  match x.shadow with
  | .opened _ p => if x.burstInProgress then [] else [.precharge b p]
  | .closed | .claimed _ => []

/-- The bank unit told of a link reset (R44, R46). -/
def BankState.afterReset (x : BankState) : BankState := { x with
  lane := if x.burstInProgress then x.lane.take 1 else []
  inProgress := if x.burstInProgress then x.inProgress else none
  shadow := if x.isOpen && !x.burstInProgress then .closed else x.shadow
  revoked := false
  reported := !x.burstInProgress }

theorem State.port_nil (s : State) : s.port [] = s := by
  rw [State.port, List.append_nil]

theorem State.resetBank_eq (b : Bank) (s : State) :
    s.resetBank b = (s.port ((s.bank b).resetOps b)).setBank b (s.bank b).afterReset := by
  have told (x : BankState) (hx : x.burstInProgress = false) : (s.setBank b { x with
      lane := [], inProgress := none, revoked := false, reported := false }).closeForReset b =
      (s.port (x.resetOps b)).setBank b x.afterReset := by
    cases hs : x.shadow <;>
      simp [State.closeForReset, BankState.resetOps, BankState.afterReset, BankState.isOpen, hs, hx, State.port_setBank, State.port_nil]
  unfold State.resetBank
  cases hip : (s.bank b).inProgress with
  | none =>
    have reset : (s.bank b).linkReset = { s.bank b with lane := [], inProgress := none, revoked := false, reported := false } := by
      simp only [BankState.linkReset, hip]
    dsimp only
    rw [reset, State.bank_setBank_self, if_pos rfl]
    exact told _ (by simp only [BankState.burstInProgress, hip])
  | some p =>
    cases p with
    | sweeping =>
      have reset : (s.bank b).linkReset = { s.bank b with lane := [], inProgress := none, revoked := false, reported := false } := by
        simp only [BankState.linkReset, hip]
      dsimp only
      rw [reset, State.bank_setBank_self, if_pos rfl]
      exact told _ (by simp only [BankState.burstInProgress, hip])
    | burst body =>
      have burst : (s.bank b).burstInProgress = true := by simp only [BankState.burstInProgress, hip]
      have ops : (s.bank b).resetOps b = [] := by
        unfold BankState.resetOps
        split <;> simp [burst]
      have reset : (s.bank b).linkReset = (s.bank b).afterReset := by
        simp only [BankState.linkReset, hip, BankState.afterReset, burst, Bool.not_true, Bool.and_false, Bool.false_eq_true, if_false, if_true]
      have stays : (s.bank b).afterReset.inProgress = some (.burst body) := by
        simp only [BankState.afterReset, burst, if_true, hip]
      dsimp only
      rw [reset, State.bank_setBank_self, stays, if_neg nofun, ops]
      rw [State.port_nil]

/-- The banks of a list told of a link reset, in its order. -/
theorem State.resetBanks_eq (l : List Bank) (hd : l.Nodup) (s : State) :
    (l.foldl (fun s b => s.resetBank b) s) = { s with
        banks := (l.foldl (fun s b => s.resetBank b) s).banks, stackPort := s.stackPort ++ l.flatMap fun b => (s.bank b).resetOps b }
      ∧ ∀ c, (l.foldl (fun s b => s.resetBank b) s).bank c = if c ∈ l then (s.bank c).afterReset else s.bank c := by
  induction l generalizing s with
  | nil => simp
  | cons b l ih =>
    obtain ⟨hb, hd⟩ := List.nodup_cons.mp hd
    obtain ⟨shape, banks⟩ := ih hd (s.resetBank b)
    have bankOf (c : Bank) : (s.resetBank b).bank c = if c = b then (s.bank b).afterReset else s.bank c := by
      rw [State.resetBank_eq, State.bank_setBank]
      rfl
    have ops : (l.flatMap fun c => ((s.resetBank b).bank c).resetOps c) = l.flatMap fun c => (s.bank c).resetOps c :=
      List.flatMap_congr fun c hc => by rw [bankOf, if_neg fun h => hb (by rw [← h]; exact hc)]
    refine ⟨?_, fun c => ?_⟩
    · rw [List.foldl_cons, shape, ops]
      rw [State.resetBank_eq, List.flatMap_cons, ← List.append_assoc]
      rfl
    · rw [List.foldl_cons, banks, bankOf]
      by_cases hc : c = b
      · subst hc
        simp [hb]
      · simp [hc]

/-- Settles O8: every bank is told, and with no READ or WRITE in progress every one has reported. -/
theorem linkResetForgetsTheController : Obligations.LinkResetForgetsTheController := by
  intro rest sending s hp hr hl
  generalize hv : ({ s.completeSending sending with link := .resetting, held := [], outbound := [], reportLane := [] } : State) = v
  obtain ⟨shape, banks⟩ := State.resetBanks_eq allBanks allBanks_nodup v
  generalize hu : allBanks.foldl (fun s b => s.resetBank b) v = u at shape banks
  have taken : exec (.linkReset rest sending) s = .next u.tryLinkUp := by
    simp only [exec, execLinkReset, State.arriveLinkReset, if_neg hp, hr, Bool.false_eq_true, if_false, State.takeLinkReset, hl, if_true,
      ← hu, ← hv]
  have sent : v = { s with
      link := .resetting, held := [], outbound := [], reportLane := []
      linkOut := if sending then s.linkOut ++ (s.outbound.take 1).map OutMsg.frame else s.linkOut } := by
    rw [← hv]
    unfold State.completeSending
    cases sending with
    | false => rfl
    | true => cases s.outbound <;> simp
  have bankOf (c : Bank) : u.bank c = (s.bank c).afterReset := by
    rw [banks, if_pos (mem_allBanks c), sent]
    rfl
  rw [taken]
  refine ⟨_, rfl, ?_⟩
  by_cases h : ∃ c, (s.bank c).burstInProgress = true
  · obtain ⟨c, hc⟩ := h
    rw [State.tryLinkUp_waits (c := c) (by rw [bankOf, BankState.afterReset, hc]; rfl)]
    have link : u.link = .resetting := by rw [shape, sent]
    refine ⟨?_, fun b => ?_, fun _ => ⟨link, ?_⟩, fun hnone => ?_⟩
    · rw [shape, sent]
      rfl
    · rw [bankOf, link]
      simp [BankState.afterReset]
    · rw [shape, sent]
    · rw [hnone c] at hc
      cases hc
  · have none (c : Bank) : (s.bank c).burstInProgress = false := by
      simpa using fun hc => h ⟨c, hc⟩
    have urgent : u.urgentAt = s.urgentAt := funext fun c => by
      unfold State.urgentAt
      rw [bankOf, shape, sent]
      rfl
    rw [State.tryLinkUp_reported (by rw [shape, sent]) fun c => by rw [bankOf, BankState.afterReset, none c]; rfl]
    obtain ⟨up, named⟩ := State.linkUp_eq (s := u) fun c => by rw [shape, sent]; simp
    rw [urgent] at up named
    have link : u.linkUp.link = .up := by rw [up]
    have out : u.linkUp.outbound = .ready :: (allBanks.filter s.urgentAt).map .need := by
      rw [up, shape, sent]
      rfl
    refine ⟨?_, fun b => ?_, fun hb => absurd hb h, fun _ => ⟨link, out⟩⟩
    · refine up.trans ?_
      rw [link, out]
      generalize u.linkUp.banks = banks'
      rw [shape, sent]
      rfl
    · rw [named, bankOf, link]
      simp [BankState.afterReset, State.urgentAt]
end

end Sys2Proof.Machine
end

section
/-! The port: what it takes, what it checks and what it answers, and the notice table (O37, O44 to O48). -/
namespace Sys2Proof.Machine
open Sys2Proof

section
variable {s t : State} {xn : Byte} {late : Bool} {q : Request} {r : Result} {l : List Byte} {c : Call}

/-! ### Requests taken -/

theorem exec_requestCommand (xn : Byte) (late : Bool) (q : Request) (s : State) :
    exec (requestCommand xn late q) s = .next (s.takeRequest late xn q) := by
  cases q <;> rfl

theorem State.isServing_eq_false : s.isServing = false ↔ s.exchange = .idle ∨ ∃ f, s.exchange = .answered f := by
  unfold State.isServing
  cases s.exchange <;> simp

/-- A request the port answers has the response in the exchange (R153). -/
theorem State.answer_eq (late : Bool) (xn : Byte) (q : Request) (r : Result) (l : List Byte) (s : State) :
    s.answer late xn q r l = s.answeredRead late xn q r l := State.respond_eq ..

theorem State.takeRequest_call (h : s.serves xn q) : s.takeRequest late xn q = s.takeCall late xn q := by
  obtain ⟨hp, hs, hr⟩ := h
  unfold State.takeRequest
  rcases State.isServing_eq_false.mp hs with he | ⟨f, he⟩ <;> simp only [hp, he, hr]

theorem State.takeRequest_repeat {y : LastChanging} (hp : s.part = .running) (hs : s.isServing = false) (hr : s.repeats xn q = some y) :
    s.takeRequest late xn q = s.answeredRead late xn q .exists (y.result.code :: y.contents) := by
  unfold State.takeRequest
  rcases State.isServing_eq_false.mp hs with he | ⟨f, he⟩ <;> simp only [hp, he, hr, State.answer_eq]

theorem State.takeRequest_loading (hp : s.part = .loading) (hs : s.isServing = false) : s.takeRequest late xn q =
    if q = .status then s.takeCall late xn q else s.answer late xn q .notReady [] := by
  unfold State.takeRequest
  rcases State.isServing_eq_false.mp hs with he | ⟨f, he⟩ <;> simp only [hp, he]

/-- A request that changes nothing is no repeat (R156). -/
theorem State.repeats_read (hq : q.changing = false) : s.repeats xn q = none := by
  rw [State.repeats, if_neg (by simp [hq])]

/-- A read request taken: answered with what its owner gives (R153). -/
theorem exec_read (hp : s.part = .running) (hs : s.isServing = false) (hq : q.changing = false) (hc : checkRequest q = .ok c)
    (ha : s.serve c = (s, r, l)) : exec (requestCommand xn late q) s = .next (s.answeredRead late xn q r l) := by
  have unrecorded : s.record xn q r l = s := by rw [State.record, if_neg (by simp [hq])]
  rw [exec_requestCommand, State.takeRequest_call ⟨hp, hs, State.repeats_read hq⟩]
  simp only [State.takeCall, hc, ha, unrecorded, State.answer_eq]

/-- A changing request taken: its owner's change, answered and recorded (R153, R156). -/
theorem exec_change_request (h : s.serves xn q) (hq : q.changing = true) (hc : checkRequest q = .ok c) (ha : s.serve c = (t, r, l)) :
    exec (requestCommand xn late q) s = .next (t.answeredChange late xn q r l) := by
  rw [exec_requestCommand, State.takeRequest_call h]
  simp only [State.takeCall, hc, ha, State.record, if_pos hq, State.answer_eq]
  rfl

/-! ### The port's checks -/

/-- A field that names an address, or none. -/
theorem addressField_cases (n m : Nat) : (n ≤ m ∧ orElseResult .badAddress (toFin? n m) = .error .badAddress)
    ∨ (m < n ∧ ∃ i : Fin n, orElseResult .badAddress (toFin? n m) = .ok i ∧ i.val = m) := by
  by_cases h : n ≤ m
  · exact .inl ⟨h, by rw [toFin?_eq_none.mpr h]; rfl⟩
  · exact .inr ⟨by omega, ⟨m, by omega⟩, by rw [toFin?, dif_pos (Nat.lt_of_not_le h)]; rfl, rfl⟩

theorem bankField_bankByte (b : Bank) : bankField (bankByte b) = .ok b := by
  rw [bankField, bankByte, (toFin?_byte (by omega)).mpr rfl]
  rfl

theorem rowOf_rowWord (r : LRow) : rowOf (rowWord r) = .ok r := by
  have h : (rowWord r).toNat = r.val := by
    have := r.isLt
    rw [rowWord, BitVec.toNat_ofNat]
    omega
  rw [rowOf, toFin?_eq_some.mpr h.symm]
  rfl

theorem flagOf_flagByte (on : Bool) : flagOf (flagByte on) = some on := by cases on <;> rfl

theorem flagOf_eq_none {v : Byte} : flagOf v = none ↔ 2 ≤ v.toNat := by
  have zero : v = 0 ↔ v.toNat = 0 := ⟨congrArg _, fun h => BitVec.eq_of_toNat_eq h⟩
  have one : v = 1 ↔ v.toNat = 1 := ⟨congrArg _, fun h => BitVec.eq_of_toNat_eq h⟩
  unfold flagOf
  simp only [zero, one]
  split
  · exact iff_of_false nofun (by omega)
  · split
    · exact iff_of_false nofun (by omega)
    · exact iff_of_true rfl (by omega)

/-- Check 4 of R155. -/
theorem checkRequest_badAddress (h : badAddress q = true) : checkRequest q = .error .badAddress := by
  have keyed {α : Type} (f : Bank → LRow → α) (b : Byte) (w : BitVec 16) (h : 48 ≤ b.toNat ∨ 32768 ≤ w.toNat) :
      (do return f (← bankField b) (← rowOf w) : Except Result α) = .error .badAddress := by
    unfold bankField rowOf
    rcases addressField_cases 48 b.toNat with ⟨-, hb⟩ | ⟨hlt, x, hb, -⟩
    · rw [hb]
      rfl
    · rcases addressField_cases 32768 w.toNat with ⟨-, hw⟩ | ⟨hlt', y, hw, -⟩
      · rw [hb, hw]
        rfl
      · omega
  have banked {α : Type} (f : Bank → α) (b : Byte) (h : 48 ≤ b.toNat) :
      (do return f (← bankField b) : Except Result α) = .error .badAddress := by
    unfold bankField
    rw [toFin?_eq_none.mpr h]
    rfl
  cases q with
  | lookup b w | steer b w | release b w | forget b w => exact keyed _ b w (by simpa [badAddress] using h)
  | list b | bank b => exact banked _ b (by simpa [badAddress] using h)
  | void b d f =>
    rw [checkRequest, bankField]
    rcases addressField_cases 48 b.toNat with ⟨-, hb⟩ | ⟨hlt, x, hb, -⟩
    · rw [hb]
      rfl
    · rw [hb, toFin?_eq_none.mpr (show 8 ≤ d.toNat by simp [badAddress] at h; omega)]
      rfl
  | fuse n =>
    rw [checkRequest, toFin?_eq_none.mpr (by simpa [badAddress] using h)]
    rfl
  | status | suspects | forgetAll | set i v | get i | noticeTop | noticeAck k | mask k m => cases h
  | _ => exact keyed _ _ _ (by simpa [badAddress] using h) -- SEAL

/-- Check 5 of R155, behind check 4. -/
theorem checkRequest_badValue (ha : badAddress q = false) (h : badValue q = true) : checkRequest q = .error .badValue := by
  cases q with
  | void b d f =>
    rw [checkRequest, bankField]
    simp only [badAddress, Bool.or_eq_false_iff, decide_eq_false_iff_not] at ha
    rcases addressField_cases 48 b.toNat with ⟨hlt, -⟩ | ⟨-, x, hb, -⟩
    · omega
    · rcases addressField_cases 8 d.toNat with ⟨hlt, -⟩ | ⟨-, y, hd, -⟩
      · omega
      · rw [hb, hd, flagOf_eq_none.mpr (by simpa [badValue] using h)]
        rfl
  | set i v =>
    rw [badValue] at h
    rw [checkRequest]
    cases hi : itemOf i with
    | none => rfl
    | some x =>
      rw [hi] at h
      have out : x.inRange v.toNat = false := by simpa using h
      exact if_neg (by rw [out]; exact Bool.false_ne_true)
  | get i =>
    rw [checkRequest, Option.isNone_iff_eq_none.mp h]
    rfl
  | noticeAck k =>
    rw [checkRequest, Option.isNone_iff_eq_none.mp h]
    rfl
  | mask k m =>
    rw [checkRequest]
    cases hk : kindOf k with
    | none => rfl
    | some x =>
      rw [flagOf_eq_none.mpr (by simpa [badValue, hk] using h)]
      rfl
  | _ => cases h

/-- Settles O37: the checks in their order. -/
theorem portChecksRefuse : Obligations.PortChecksRefuse := by
  intro xn late q s
  rw [exec_requestCommand]
  refine ⟨fun hp => ?_, fun request response hp he => ?_, fun hs => ⟨fun hp hq => ?_, fun hp => ⟨fun l hl hq hc hx hf => ?_, fun hr => ?_⟩⟩⟩
  · simp only [State.takeRequest, hp]
  · have taken : s.takeRequest late xn q = s.readyUnless late := by
      unfold State.takeRequest
      cases hpart : s.part with
      | reset => exact absurd hpart hp
      | loading | running => simp only [he]
    rw [taken, State.readyUnless_of_serving late he]
    cases late
    · rfl
    · rw [if_pos rfl, if_pos rfl, ← he]
  · rw [State.takeRequest_loading hp hs, if_neg hq, State.answer_eq]
  · have repeated : s.repeats xn q = some l := by simp [State.repeats, hq, hl, hc, hx, hf]
    rw [State.takeRequest_repeat hp hs repeated]
  · have refused {r : Result} (h : checkRequest q = .error r) : s.takeRequest late xn q = s.answeredRead late xn q r [] := by
      rw [State.takeRequest_call ⟨hp, hs, hr⟩, State.takeCall, h]
      exact State.answer_eq ..
    exact ⟨fun ha => by rw [refused (checkRequest_badAddress ha)], fun ha hv => by rw [refused (checkRequest_badValue ha hv)]⟩

/-! ### The notice table -/

theorem noticeKinds_index : noticeKinds.map NoticeKind.index = List.finRange 13 := by decide

theorem NoticeKind.index_injective {j k : NoticeKind} (h : j.index = k.index) : j = k := by
  have named (k : NoticeKind) : noticeKinds[k.index.val]? = some k := by cases k <;> rfl
  exact Option.some.inj ((named j).symm.trans (by rw [h, named k]))

theorem mem_noticeKinds (k : NoticeKind) : k ∈ noticeKinds := by cases k <;> decide

theorem State.notice_setNotice (k j : NoticeKind) (e : NoticeEntry) (s : State) :
    (s.setNotice k e).notice j = if j = k then e else s.notice j := by
  unfold State.notice State.setNotice
  rw [vget_set]
  split
  · next h => rw [if_pos (NoticeKind.index_injective h)]
  · next h => rw [if_neg fun hj => h (by rw [hj])]

/-- ALERT's level, kind by kind (R173). -/
theorem alertLevel_iff (s : State) : alertLevel s.notices = true ↔ ∃ k, (s.notice k).pending = true ∧ (s.notice k).masked = false := by
  have entries : s.notices.toList = noticeKinds.map s.notice := by
    have h : s.notices.toList = (List.finRange 13).map s.notices.get := by
      refine List.ext_getElem (by simp) fun i hi hi' => ?_
      simp [vget_eq]
    rw [h, ← noticeKinds_index, List.map_map]
    rfl
  unfold alertLevel
  rw [entries, List.any_map, List.any_eq_true]
  simp only [Function.comp_apply, Bool.and_eq_true, Bool.not_eq_true']
  exact ⟨fun ⟨k, _, h⟩ => ⟨k, h⟩, fun ⟨k, h⟩ => ⟨k, mem_noticeKinds k, h⟩⟩

/-- An entry written (R170, R173): the other kinds stay, and ALERT follows the table. -/
theorem State.setNotice_eq (k : NoticeKind) (e : NoticeEntry) (s : State) : s.setNotice k e = { s with
      notices := (s.setNotice k e).notices, alert := (s.setNotice k e).alert } ∧ (s.setNotice k e).notice k = e
    ∧ (∀ j, j ≠ k → (s.setNotice k e).notice j = s.notice j)
    ∧ ((s.setNotice k e).alert = true ↔ ∃ j, ((s.setNotice k e).notice j).pending = true ∧ ((s.setNotice k e).notice j).masked = false) :=
  ⟨rfl, by rw [State.notice_setNotice, if_pos rfl], fun j hj => by rw [State.notice_setNotice, if_neg hj], alertLevel_iff (s.setNotice k e)⟩

/-- The kind found by a search in the priority order. -/
theorem find_noticeKinds {p : NoticeKind → Bool} {k : NoticeKind} :
    noticeKinds.find? p = some k ↔ p k = true ∧ ∀ j : NoticeKind, j.index < k.index → p j = false := by
  have sorted : noticeKinds.Pairwise fun j k => j.index < k.index := by
    rw [← List.pairwise_map, noticeKinds_index]
    exact List.pairwise_lt_finRange 13
  constructor
  · intro h
    obtain ⟨hk, l, l', hl, hno⟩ := List.find?_eq_some_iff_append.mp h
    refine ⟨hk, fun j hj => ?_⟩
    have hm := mem_noticeKinds j
    rw [hl] at hm sorted
    obtain ⟨-, htail, -⟩ := List.pairwise_append.mp sorted
    rcases List.mem_append.mp hm with hm | hm
    · simpa using hno j hm
    · rcases List.mem_cons.mp hm with rfl | hm
      · omega
      · have := List.rel_of_pairwise_cons htail hm
        omega
  · rintro ⟨hk, hlow⟩
    cases hf : noticeKinds.find? p with
    | none => exact absurd hk (by simpa using List.find?_eq_none.mp hf k (mem_noticeKinds k))
    | some j =>
      obtain ⟨hj, l, l', hl, hno⟩ := List.find?_eq_some_iff_append.mp hf
      have hm := mem_noticeKinds k
      rw [hl] at hm sorted
      obtain ⟨-, htail, -⟩ := List.pairwise_append.mp sorted
      rcases List.mem_append.mp hm with hm | hm
      · exact absurd hk (by simpa using hno k hm)
      · rcases List.mem_cons.mp hm with rfl | hm
        · rfl
        · rw [hlow j (List.rel_of_pairwise_cons htail hm)] at hj
          cases hj

/-- Settles O46: a raise is one entry written, and the search follows the priority order. -/
theorem noticeTable : Obligations.NoticeTable := by
  intro s
  have shown (k : NoticeKind) : ((s.notice k).pending && !(s.notice k).masked) = true
      ↔ (s.notice k).pending = true ∧ (s.notice k).masked = false := by simp
  refine ⟨fun k b r d => s.setNotice_eq k _, fun k => ?_, ?_⟩
  · rw [State.topNotice, find_noticeKinds, shown, and_assoc]
    refine and_congr Iff.rfl (and_congr Iff.rfl (forall_congr' fun j => ?_))
    rw [← Bool.not_eq_true, shown]
  · rw [State.topNotice, List.find?_eq_none]
    exact ⟨fun h j hj => h j (mem_noticeKinds j) ((shown j).mpr hj), fun h j _ hj => h j ((shown j).mp hj)⟩

/-! ### The suspect list, the configuration and the notices -/

theorem Settings.get_set {i : Item} {v : Nat} (h : i.inRange v = true) (c : Settings) (j : Item) :
    (c.set i v).get j = if j = i then v else c.get j := by
  by_cases hj : j = i
  · subst hj
    rw [if_pos rfl]
    cases j with
    | autoSteer =>
      have bound : v ≤ 1 := of_decide_eq_true (Bool.and_eq_true_iff.mp h).2
      obtain h0 | h1 : v = 0 ∨ v = 1 := by omega
      · subst h0; rfl
      · subst h1; rfl
    | _ => rfl
  · rw [if_neg hj]
    revert hj
    cases i <;> cases j <;> simp [Settings.set, Settings.get] <;> rfl

theorem checkRequest_forget (b : Bank) (r : LRow) : checkRequest (.forget (bankByte b) (rowWord r)) = .ok (.forget b r) := by
  rw [checkRequest, bankField_bankByte, rowOf_rowWord]
  rfl

/-- Settles O44: the three owners' answers. -/
theorem forgetAndSetRequests : Obligations.ForgetAndSetRequests := by
  intro xn late s
  refine ⟨fun b r h => ⟨fun l e l' hl hb hr hu => ?_, fun hn => ?_⟩, fun h => ?_, fun v w i hi hw h => ?_⟩
  · subst hb hr
    refine exec_change_request (q := .forget _ _) h rfl (checkRequest_forget ..) ?_
    have found : suspectOf (l ++ e :: l') e.bank e.row = some e := suspectOf_eq fun f hf => hu f (List.mem_append_left _ hf)
    simp only [State.serve, State.serveForget, hl, found, Option.isSome_some, if_true, withoutSuspect_eq hu]
  · refine exec_change_request (q := .forget _ _) h rfl (checkRequest_forget ..) ?_
    simp only [State.serve, State.serveForget, suspectOf_eq_none.mpr hn, Option.isSome_none, Bool.false_eq_true, if_false]
  · exact exec_change_request (q := .forgetAll) h rfl rfl rfl
  · have checked : checkRequest (.set v w) = .ok (.set i w.toNat) := by
      rw [checkRequest, hi]
      exact if_pos hw
    refine ⟨s.settings.set i w.toNat, exec_change_request (q := .set v w) h rfl checked rfl, ?_, fun j hj => ?_⟩
    · rw [Settings.get_set hw, if_pos rfl]
    · rw [Settings.get_set hw, if_neg hj]

/-- Settles O45: each writes one entry of the table, or none. -/
theorem noticeRequests : Obligations.NoticeRequests := by
  intro xn v m late k on s hk hm
  dsimp only
  refine ⟨fun h => ?_, fun h => ?_⟩
  · have checked : checkRequest (.noticeAck v) = .ok (.noticeAck k) := by
      rw [checkRequest, hk]
      rfl
    refine ⟨fun hp => ?_, fun hp => ?_⟩
    · refine ⟨s.setNotice k (s.notice k).acked, exec_change_request (q := .noticeAck v) h rfl checked ?_, s.setNotice_eq k _⟩
      simp only [State.serve, State.serveAck, if_pos hp]
    · refine exec_change_request (q := .noticeAck v) h rfl checked ?_
      simp only [State.serve, State.serveAck, hp, Bool.false_eq_true, if_false]
  · have checked : checkRequest (.mask v m) = .ok (.mask k on) := by
      rw [checkRequest, hk, hm, flagOf_flagByte]
      rfl
    exact ⟨s.setNotice k { s.notice k with masked := on }, exec_change_request (q := .mask v m) h rfl checked rfl, s.setNotice_eq k _⟩

/-! ### Frames that are no request, and response reads -/

/-- Settles O47: the frame is read, and the exchange decides. -/
theorem framesThatAreNoRequest : Obligations.FramesThatAreNoRequest := by
  intro code xn n late fields bytes s
  have read : parseRequestFrame (code :: xn :: n :: fields) =
      some (code, xn, if n.toNat = fields.length then parseFields code fields else none) := rfl
  generalize hf : code :: xn :: n :: fields = frame at read ⊢
  have taken : exec (.unknownRequest ⟨frame, late⟩) s = .next (s.takeRequestFrame late frame) := rfl
  refine ⟨fun hp hs hn => ?_, fun hp => ?_, fun request response hp he => ?_, fun hb => ?_, rfl⟩
  · have unknown : (if n.toNat = fields.length then parseFields code fields else none) = none := by
      split
      · next h => exact hn.resolve_left (fun h' => h' h)
      · rfl
    have answered : s.takeRequestFrame late frame = s.respond late frame xn code .unknownRequest [] := by
      rw [unknown] at read
      unfold State.takeRequestFrame
      rw [read]
      cases hpart : s.part with
      | reset => exact absurd hpart hp
      | loading | running => rcases State.isServing_eq_false.mp hs with he | ⟨f, he⟩ <;> simp only [he]
    rw [taken, answered, State.respond_eq]
    rfl
  · rw [taken, State.takeRequestFrame, read]
    cases (if n.toNat = fields.length then parseFields code fields else none) with
    | none => simp only [hp]
    | some q => simp only [State.takeRequest, hp]
  · have discarded : s.takeRequestFrame late frame = s.readyUnless late := by
      rw [State.takeRequestFrame, read]
      cases (if n.toNat = fields.length then parseFields code fields else none) with
      | none =>
        cases hpart : s.part with
        | reset => exact absurd hpart hp
        | loading | running => simp only [he]
      | some q =>
        cases hpart : s.part with
        | reset => exact absurd hpart hp
        | loading | running => simp only [State.takeRequest, hpart, he]
    rw [taken, discarded, State.readyUnless_of_serving late he]
    cases late
    · rfl
    · rw [if_pos rfl, if_pos rfl, ← he]
  · match bytes, hb with
    | [], _ | [_], _ | [_, _], _ => rfl

/-- Settles O48: the frame found is clocked out, and the exchange goes on. -/
theorem responseReadClocksOut : Obligations.ResponseReadClocksOut := by
  intro n late s
  have taken : exec (.responseRead ⟨n, late⟩) s = .next (s.readResponse late n) := rfl
  refine ⟨fun hp => ?_, fun hp => ?_⟩
  · dsimp only
    rw [taken, State.readResponse, if_neg hp]
    refine ⟨fun he => ?_, fun q f he => ?_, fun f he => ?_⟩
    · rw [State.readyUnless_of_not_serving]
      · simp only [State.readFrame, State.exchangeAfterRead, he, statusFrame]
      · simp [State.exchangeAfterRead, he]
    · rw [State.readyUnless_of_serving (q := q) (f := f)]
      · simp only [State.readFrame, he, statusFrame]
      · simp only [State.exchangeAfterRead, he]
    · rw [State.readyUnless_of_not_serving]
      · simp only [State.readFrame, State.exchangeAfterRead, he]
      · intro q f'
        simp only [State.exchangeAfterRead, he]
        split <;> exact nofun
  · refine ⟨(List.range n).map fun i => Config.freeByte (s.freeCount + i), by simp, ?_⟩
    rw [taken, State.readResponse, if_pos hp]
end

end Sys2Proof.Machine
end

section
/-! The steering requests and the jobs they queue (O38 to O43). -/
namespace Sys2Proof.Machine
open Sys2Proof

section
variable {s : State} {b : Bank} {r : LRow} {d f : Spare} {e : Rec} {o : Origin}

/-! ### Steer claims -/

theorem State.queueFull_eq_false (h : s.migQueue.length < 8) : s.queueFull = false := decide_eq_false (Nat.not_le.mpr h)

theorem State.queueFull_eq_true (h : 8 ≤ s.migQueue.length) : s.queueFull = true := decide_eq_true h

/-- What a steer claim may be answered: a row without a record, or with one that is STEERED, asks for a spare. -/
def BankState.asksSpare (x : BankState) (r : LRow) : Prop := x.noRecord r ∨ ∃ f e, x.records.get f = some e ∧ e.row = r ∧ e.state = .steered

theorem State.steerClaim_new (hn : (s.bank b).noRecord r) (hd : (s.bank b).lowestFree d) (hq : s.migQueue.length < 8) :
    s.steerClaim b r o = ((s.setBank b ((s.bank b).firstSteer r d o)).queueJob b r, .steering d none) := by
  simp [State.steerClaim, BankState.recOf_eq_none.mpr hn, BankState.freeSpare_eq hd, State.queueFull_eq_false hq]

theorem State.steerClaim_again (hf : (s.bank b).recOf r = some (f, e)) (he : e.state = .steered) (hd : (s.bank b).lowestFree d)
    (hq : s.migQueue.length < 8) : s.steerClaim b r o =
      ((s.setBank b ((s.bank b).reSteer f e d o (decide (o = .auto)))).queueJob b r, .steering d (some f)) := by
  simp [State.steerClaim, hf, he, BankState.freeSpare_eq hd, State.queueFull_eq_false hq]

theorem State.steerClaim_sealed (hf : (s.bank b).recOf r = some (f, e)) (he : ∃ n, e.state = .fused n) :
    s.steerClaim b r o = (s, .isSealed) := by
  obtain ⟨n, he⟩ := he
  simp [State.steerClaim, hf, he]

theorem State.steerClaim_busy (hf : (s.bank b).recOf r = some (f, e))
    (he : (∃ old, e.state = .migrating old) ∨ e.state = .returning ∨ ∃ n, e.state = .sealing n) : s.steerClaim b r o = (s, .busy) := by
  rcases he with ⟨old, he⟩ | he | ⟨n, he⟩ <;> simp [State.steerClaim, hf, he]

/-- A claim that asks for a spare, refused. -/
theorem State.steerClaim_refused (ht : (s.bank b).tableOk) (ha : (s.bank b).asksSpare r) :
    ((∀ d, (s.bank b).spares.get d ≠ .free) → s.steerClaim b r o = (s.sparesExhausted b r o, .noSpare))
    ∧ ((∃ d, (s.bank b).spares.get d = .free) → 8 ≤ s.migQueue.length → s.steerClaim b r o = (s, .queueFull)) := by
  have found (h : ∃ d, (s.bank b).spares.get d = .free) : ∃ d, (s.bank b).freeSpare = some d := by
    obtain ⟨d, hd⟩ := h
    exact Option.ne_none_iff_exists'.mp fun hn => BankState.freeSpare_eq_none.mp hn d hd
  rcases ha with hn | ⟨f, e, he, hr, hs⟩
  · refine ⟨fun h => ?_, fun h hq => ?_⟩
    · simp [State.steerClaim, BankState.recOf_eq_none.mpr hn, BankState.freeSpare_eq_none.mpr h]
    · obtain ⟨d, hd⟩ := found h
      simp [State.steerClaim, BankState.recOf_eq_none.mpr hn, hd, State.queueFull_eq_true hq]
  · have hf := BankState.recOf_eq ht he hr
    refine ⟨fun h => ?_, fun h hq => ?_⟩
    · simp [State.steerClaim, hf, hs, BankState.freeSpare_eq_none.mpr h]
    · obtain ⟨d, hd⟩ := found h
      simp [State.steerClaim, hf, hs, hd, State.queueFull_eq_true hq]

/-- Settles O38: each outcome of the claim is one answer. -/
theorem steerRequest : Obligations.SteerRequest := by
  intro xn late b r s
  dsimp only
  intro h ht
  have checked : checkRequest (.steer (bankByte b) (rowWord r)) = .ok (.steer b r) := by
    rw [checkRequest, bankField_bankByte, rowOf_rowWord]
    rfl
  have answered {t : State} {w : Result} {l : List Byte} (ha : s.serveSteer b r = (t, w, l)) :=
    exec_change_request (late := late) h rfl checked ha
  refine ⟨fun hn d hd hq => answered ?_, fun f e he hr => ⟨fun hs d hd hq => answered ?_, fun hs => answered ?_, fun hs => answered ?_⟩,
    fun ha => ⟨fun hd => answered ?_, fun hd hq => answered ?_⟩⟩
  · rw [State.serveSteer, State.steerClaim_new hn hd hq]
    rfl
  · rw [State.serveSteer, State.steerClaim_again (BankState.recOf_eq ht he hr) hs hd hq]
    rfl
  · rw [State.serveSteer, State.steerClaim_sealed (BankState.recOf_eq ht he hr) hs]
  · rw [State.serveSteer, State.steerClaim_busy (BankState.recOf_eq ht he hr) hs]
  · rw [State.serveSteer, (State.steerClaim_refused ht ha).1 hd]
    rfl
  · rw [State.serveSteer, (State.steerClaim_refused ht ha).2 hd hq]

/-! ### Jobs -/

/-- Settles O39: the record's move gives the job's context. -/
theorem jobJoinsTheQueue : Obligations.JobJoinsTheQueue := by
  intro b r s
  refine ⟨rfl, fun h => h.elim State.takeJob_of_active State.takeJob_of_nil, fun q ha hq ht d e he hr kind src dst hm => ?_⟩
  have move : e.move d = some (kind, src, dst) := by
    rcases hm with ⟨hs, rfl, rfl, rfl⟩ | ⟨f, o, hs, rfl, rfl, rfl⟩ | ⟨hs, rfl, rfl, rfl⟩ <;> simp [Rec.move, Rec.current, hs, hr]
  have job : s.jobOf b r = some (Active.start b r kind src dst) := by
    simp [State.jobOf, BankState.recOf_eq ht he hr, move]
  rw [State.takeJob_cons ha hq job]
  rfl

/-! ### RELEASE -/

theorem checkRequest_release (b : Bank) (r : LRow) : checkRequest (.release (bankByte b) (rowWord r)) = .ok (.release b r) := by
  rw [checkRequest, bankField_bankByte, rowOf_rowWord]
  rfl

theorem State.serveRelease_pending {old : Option (Spare × Bool)} (hf : (s.bank b).recOf r = some (d, e)) (he : e.state = .migrating old)
    (ha : ∀ a, s.active = some a → ¬ (a.bank = b ∧ a.row = r)) : s.serveRelease b r = s.cancelMove b r d e old := by
  unfold State.serveRelease
  cases hs : s.active with
  | none => simp only [hf, he]
  | some a => simp only [hf, he, if_neg (ha a hs)]

theorem State.serveRelease_active {old : Option (Spare × Bool)} {a : Active} (hf : (s.bank b).recOf r = some (d, e))
    (he : e.state = .migrating old) (hs : s.active = some a) (ha : a.bank = b ∧ a.row = r) : s.serveRelease b r = s.releaseActive a := by
  simp only [State.serveRelease, hf, he, hs, if_pos ha]

/-- An abort that does not take effect at once only sets abort-pending (R13, R85). -/
theorem State.releaseActive_pends {a : Active} (hs : s.active = some a)
    (h : a.abort = true ∨ a.phase = .switching ∨ a.phase = .final ∨ (s.bank a.bank).shadow = .claimed .copy) :
    s.releaseActive a = ({ s with active := some { a with abort := true } }, .accepted, [0x02]) := by
  unfold State.releaseActive
  by_cases hab : a.abort = true
  · have same : { a with abort := true } = a := by rw [← hab]
    simp only [if_pos hab]
    rw [same, ← hs]
  · have waits : ¬ s.abortable a = true := by
      unfold State.abortable
      rcases h with h | h | h | h
      · exact absurd h hab
      · simp [h]
      · simp [h]
      · simp [h]
    simp only [if_neg hab, if_neg waits]

/-- Settles O40: each state of the record is one answer. -/
theorem releaseRequest : Obligations.ReleaseRequest := by
  intro xn late b r s
  dsimp only
  intro h ht
  have answered {t : State} {w : Result} {l : List Byte} (ha : s.serveRelease b r = (t, w, l)) :=
    exec_change_request (late := late) h rfl (checkRequest_release b r) ha
  refine ⟨fun hn => answered ?_, fun d e he hr => ?_⟩
  · simp only [State.serveRelease, BankState.recOf_eq_none.mpr hn]
  · have hf := BankState.recOf_eq ht he hr
    refine ⟨fun hs ha => answered ?_, fun f o hs ha => answered ?_, fun o a hs ha hb hrow hp => answered ?_, fun hs hq => answered ?_,
      fun hs hq => answered ?_, fun ⟨n, hs⟩ => answered ?_, fun hs => answered ?_⟩
    · exact State.serveRelease_pending hf hs ha
    · exact State.serveRelease_pending hf hs ha
    · subst hb
      exact (State.serveRelease_active hf hs ha ⟨rfl, hrow⟩).trans (State.releaseActive_pends ha hp)
    · simp only [State.serveRelease, hf, hs, State.startReturn, State.queueFull_eq_false hq, Bool.false_eq_true, if_false]
      rfl
    · simp only [State.serveRelease, hf, hs, State.startReturn, State.queueFull_eq_true hq, if_true]
    · simp only [State.serveRelease, hf, hs]
    · rcases hs with hs | ⟨n, hs⟩ <;> simp only [State.serveRelease, hf, hs]

/-- Settles O41: the claim withdrawn, the move given up, the engine IDLE. -/
theorem releaseAbortsAWaitingJob : Obligations.ReleaseAbortsAWaitingJob := by
  intro xn late b r d e old a s
  dsimp only
  intro h ht he hr hs ha hb hrow hab hp hsh hm
  subst hb hrow
  have hf := BankState.recOf_eq ht he hr
  refine exec_change_request h rfl (checkRequest_release a.bank a.row) ?_
  have abortable : s.abortable a = true := by
    rcases hp with hp | hp <;> simp [State.abortable, hp, hsh]
  have aborted : s.releaseActive a = (s.abortNow { a with abort := true }, .accepted, [0x02]) := by
    simp only [State.releaseActive, hab, Bool.false_eq_true, if_false, abortable, if_true]
  have withdrawn : (s.bank a.bank).withdrawn = { s.bank a.bank with migClaim := none, claimNew := false, passover := 0 } := by
    simp only [BankState.withdrawn, hm, Option.isSome_some, if_true]
  have found : ({ s.bank a.bank with migClaim := none, claimNew := false, passover := 0 } : BankState).recOf a.row = some (d, e) := hf
  rw [State.serve, State.serveRelease_active hf hs ha ⟨rfl, rfl⟩, aborted]
  simp only [State.abortNow, withdrawn, State.abortRecord, State.bank_setBank_self, found, hs, State.setBank_setBank]
  cases old <;> rfl

/-! ### SEAL and VOID -/

theorem State.programmerRefuses_busy (h : s.programmer ≠ none) : s.programmerRefuses = some .busy := by
  obtain ⟨p, hp⟩ := Option.ne_none_iff_exists'.mp h
  simp [State.programmerRefuses, hp]

theorem State.programmerRefuses_full (h : s.programmer = none) (hn : 64 ≤ s.nextFree) : s.programmerRefuses = some .fuseFull := by
  simp [State.programmerRefuses, h, hn]

theorem State.programmerRefuses_free {n : FuseNo} (h : s.programmer = none) (hn : s.nextFree = n.val) :
    s.programmerRefuses = none ∧ toFin? 64 s.nextFree = some n :=
  ⟨State.programmerRefuses_eq_none.mpr ⟨h, by omega⟩, toFin?_eq_some.mpr hn.symm⟩

/-- Settles O42: each state of the record, and of the programmer, is one answer. -/
theorem sealRequest : Obligations.SealRequest := by
  intro xn late b r s
  dsimp only
  intro h ht
  have checked : checkRequest (.seal (bankByte b) (rowWord r)) = .ok (.seal b r) := by
    rw [checkRequest, bankField_bankByte, rowOf_rowWord]
    rfl
  have answered {t : State} {w : Result} {l : List Byte} (ha : s.serveSeal b r = (t, w, l)) :=
    exec_change_request (late := late) h rfl checked ha
  refine ⟨fun hn => answered ?_, fun d e he hr => ?_⟩
  · simp only [State.serveSeal, BankState.recOf_eq_none.mpr hn]
  · have hf := BankState.recOf_eq ht he hr
    refine ⟨fun hs => answered ?_, fun ⟨n, hs⟩ => answered ?_, fun hs => ⟨fun hp => answered ?_, fun hp hn => answered ?_, fun hp n hn => answered ?_⟩⟩
    · rcases hs with ⟨o, hs⟩ | hs | ⟨n, hs⟩ <;> simp only [State.serveSeal, hf, hs]
    · simp only [State.serveSeal, hf, hs]
    · simp only [State.serveSeal, hf, hs, State.programmerRefuses_busy hp]
    · simp only [State.serveSeal, hf, hs, State.programmerRefuses_full hp hn]
    · obtain ⟨free, slot⟩ := State.programmerRefuses_free hp hn
      simp only [State.serveSeal, hf, hs, free, slot]
      rfl

/-- Settles O43: each state of the spare, and of the programmer, is one answer. -/
theorem voidRequest : Obligations.VoidRequest := by
  intro xn late b d flag s
  dsimp only
  intro h
  have checked : checkRequest (.void (bankByte b) (byteOf d.val) (flagByte flag)) = .ok (.void b d flag) := by
    rw [checkRequest, bankField_bankByte, (toFin?_byte (by omega)).mpr rfl, flagOf_flagByte]
    rfl
  have answered {t : State} {w : Result} {l : List Byte} (ha : s.serveVoid b d flag = (t, w, l)) :=
    exec_change_request (late := late) h rfl checked ha
  refine ⟨fun hd => answered ?_, fun hd hw => answered ?_, fun ⟨v, hd⟩ hw => answered ?_, fun hd hw => answered ?_,
    fun hd hw => ⟨fun hp => answered ?_, fun hp hn => answered ?_, fun hp n hn => answered ?_⟩⟩
  · simp only [State.serveVoid, hd]
  · simp only [State.serveVoid, hd, hw]
    rfl
  · cases v <;> simp only [State.serveVoid, hd, hw]
  · simp only [State.serveVoid, hd, hw]
  · rcases hd with hd | hd <;> simp only [State.serveVoid, hd, hw, State.programmerRefuses_busy hp]
  · rcases hd with hd | hd <;> simp only [State.serveVoid, hd, hw, State.programmerRefuses_full hp hn]
  · obtain ⟨free, slot⟩ := State.programmerRefuses_free hp hn
    rcases hd with hd | hd
    · simp only [State.serveVoid, hd, hw, free, slot]
      rfl
    · simp only [State.serveVoid, hd, hw, free, slot]
      rfl
end

end Sys2Proof.Machine
end

section
/-! The fuse store: the end of a programming, the slots the load reads, and its end (O49 to O51). -/
namespace Sys2Proof.Machine
open Sys2Proof

section
variable {s t : State} {n : FuseNo} {f : FuseBytes}

/-! ### The end of a programming -/

theorem State.rowSealResult_sealing {b : Bank} {r : LRow} {d : Spare} {e : Rec} {m : FuseNo} (n : FuseNo) (ok : Bool)
    (hf : (s.bank b).recOf r = some (d, e)) (he : e.state = .sealing m) : s.rowSealResult b r n ok =
      (s.setBank b ((s.bank b).restate d e (if ok then .fused n else .steered))).raise (if ok then .sealDone else .sealFailed)
        (some b) (some r) (.slot n) := by
  simp only [State.rowSealResult, hf, he]

/-- Settles O49: what the slot reads back as decides the result. -/
theorem programmingEnds : Obligations.ProgrammingEnds := by
  intro n b r d f s
  have ended {p : Programming} (hp : s.programmer = some p) : exec (.programmingEnd f) s = .next (s.endProgramming p f) := by
    simp only [exec, execProgrammingEnd, hp]
  dsimp only
  refine ⟨fun e hp ht he hr hs => ?_, fun hp => ?_⟩
  · have hf := BankState.recOf_eq ht he hr
    refine ⟨fun hc => ?_, fun hc => ?_⟩
    · rw [ended hp]
      simp only [State.endProgramming, hc, decide_true, if_true, State.sealResult]
      exact congrArg Host.Outcome.next (State.rowSealResult_sealing n true hf hs)
    · rw [ended hp]
      simp only [State.endProgramming, hc, decide_false, Bool.false_eq_true, if_false, State.sealResult]
      exact congrArg Host.Outcome.next (State.rowSealResult_sealing n false hf hs)
  · refine ⟨fun hc => ?_, fun hc => ?_⟩
    · rw [ended hp]
      simp only [State.endProgramming, hc, decide_true, if_true, State.sealResult, State.voidSealResult]
      rfl
    · rw [ended hp]
      simp only [State.endProgramming, hc, decide_false, Bool.false_eq_true, if_false, State.sealResult, State.voidSealResult,
        State.setBank_bank]

/-! ### A slot taken by the load -/

/-- Slot n, read as `f`, is taken by the load: its image is `im`, the tables are those of `t`, and the summary becomes `u`. -/
structure LoadTakes (s : State) (n : FuseNo) (f : FuseBytes) (t : State) (im : Image) (u : LoadSummary) : Prop where
  image : (classify f).toImage = im
  claim : ∀ v : Vector Image 64, ({ s with image := v } : State).loadClaim n (classify f) = { t with image := v, summary := u }
  precharged : ∀ c, (t.bank c).precharged = (s.bank c).precharged

/-- What the load reads of slot n, class by class (R147, R24, R25). -/
def LoadReads (s : State) (n : FuseNo) (f : FuseBytes) (read : State → Image → LoadSummary → Prop) : Prop :=
  let u := s.summary
  (classify f = .blank → read s .blank u)
  ∧ (classify f = .spoiled → read s .spoiled { u with spoiled := u.spoiled + 1 })
  ∧ (∀ b r d, classify f = .valid (.row b r d) →
      let x := s.bank b
      (x.noRecord r → x.spares.get d = .free → read (s.setBank b { x with
          records := x.records.set d.val (some { row := r, state := .fused n, origin := .restored, poison := 0 }) d.isLt
          spares := x.spares.set d.val .held d.isLt }) (.entry (.row b r d)) { u with entries := u.entries + 1 })
      ∧ ((∃ d' e, x.records.get d' = some e ∧ e.row = r) ∨ x.spares.get d ≠ .free →
          read s (.entry (.row b r d)) { u with entries := u.entries + 1, conflicts := u.conflicts + 1 }))
  ∧ (∀ b d, classify f = .valid (.void b d) →
      let x := s.bank b
      (x.spares.get d = .free → read (s.setBank b { x with spares := x.spares.set d.val (.bad true) d.isLt }) (.entry (.void b d))
        { u with entries := u.entries + 1 })
      ∧ (x.spares.get d ≠ .free →
          read s (.entry (.void b d)) { u with entries := u.entries + 1, conflicts := u.conflicts + 1 }))

theorem State.setBank_precharged {b : Bank} {x : BankState} (h : x.precharged = (s.bank b).precharged) (c : Bank) :
    ((s.setBank b x).bank c).precharged = (s.bank c).precharged := by
  rw [State.bank_setBank]
  split
  · next hc => rw [h, hc]
  · rfl

/-- Each class of slot is taken as the rules of the load claim say. -/
theorem loadReads_of_takes {read : State → Image → LoadSummary → Prop} (h : ∀ t im u, LoadTakes s n f t im u → read t im u) :
    LoadReads s n f read := by
  have stays {c : SlotClass} {u : LoadSummary} (hc : classify f = c)
      (hu : ∀ v : Vector Image 64, ({ s with image := v } : State).loadClaim n c = { s with image := v, summary := u }) :
      read s c.toImage u := h _ _ _ ⟨by rw [hc], fun v => by rw [hc]; exact hu v, fun _ => rfl⟩
  refine ⟨fun hc => stays hc fun v => rfl, fun hc => stays hc fun v => rfl, fun b r d hc => ⟨fun hn hd => ?_, fun hx => ?_⟩,
    fun b d hc => ⟨fun hd => ?_, fun hd => ?_⟩⟩
  · refine h _ _ _ ⟨by rw [hc]; rfl, fun v => ?_, State.setBank_precharged rfl⟩
    have accepted : ¬ (((s.bank b).recOf r).isSome = true ∨ (s.bank b).spares.get d ≠ .free) := by
      simp [BankState.recOf_eq_none.mpr hn, hd]
    have bank : ({ s with image := v } : State).bank b = s.bank b := rfl
    simp only [hc, State.loadClaim, BankState.loadRow, bank, if_neg accepted]
    rfl
  · refine stays hc fun v => ?_
    have refused : ((s.bank b).recOf r).isSome = true ∨ (s.bank b).spares.get d ≠ .free := by
      refine hx.imp_left fun ⟨d', e, he, hr⟩ => Option.isSome_iff_ne_none.mpr fun hn => ?_
      exact BankState.recOf_eq_none.mp hn d' e he hr
    have bank : ({ s with image := v } : State).bank b = s.bank b := rfl
    simp only [State.loadClaim, BankState.loadRow, bank, if_pos refused]
    rw [← bank, State.setBank_bank]
    rfl
  · refine h _ _ _ ⟨by rw [hc]; rfl, fun v => ?_, State.setBank_precharged rfl⟩
    have bank : ({ s with image := v } : State).bank b = s.bank b := rfl
    simp only [hc, State.loadClaim, BankState.loadVoid, bank, if_neg (not_not_intro hd)]
    rfl
  · refine stays hc fun v => ?_
    have bank : ({ s with image := v } : State).bank b = s.bank b := rfl
    simp only [State.loadClaim, BankState.loadVoid, bank, if_pos hd]
    rw [← bank, State.setBank_bank]
    rfl

theorem LoadTakes.loadSlot {im : Image} {u : LoadSummary} (h : LoadTakes s n f t im u) : s.loadSlot n f =
    ({ t with image := s.image.set n.val im n.isLt, summary := u, loadPos := n.val + 1 } : State).completeSummary.tryLoadEnd := by
  simp only [State.loadSlot, h.image, h.claim]

theorem execLoadSlotRead_loading (weak : Option FuseBytes) (hp : s.part = .loading) (hn : s.loadPos = n.val) :
    exec (.loadSlotRead weak) s = .next (s.loadSlot n (weak.getD (s.fuses.get n))) := by
  have slot : toFin? 64 s.loadPos = some n := toFin?_eq_some.mpr hn.symm
  simp only [exec, execLoadSlotRead, hp, slot]

theorem State.tryLoadEnd_waits (h : s.loadPos ≠ 64) : s.tryLoadEnd = s := by
  rw [State.tryLoadEnd, if_neg fun hc => h hc.1]

theorem State.completeSummary_waits (h : s.loadPos ≠ 64) : s.completeSummary = s := by
  rw [State.completeSummary, if_neg h]

/-- Settles O50: below slot 63 the load only takes the slot. -/
theorem loadReadsASlot : Obligations.LoadReadsASlot := by
  intro n weak s hp hn hlt f read
  refine loadReads_of_takes (read := read) fun t im u h => ?_
  have below : n.val + 1 ≠ 64 := by omega
  show exec _ _ = _
  rw [execLoadSlotRead_loading weak hp hn, h.loadSlot, State.completeSummary_waits below, State.tryLoadEnd_waits below]

/-! ### The end of the load -/

theorem State.allPrecharged_iff : (s.banks.toList.all fun x => x.precharged) = true ↔ ∀ b, (s.bank b).precharged = true := by
  rw [banks_toList, List.all_map, List.all_eq_true]
  exact ⟨fun h b => h b (mem_allBanks b), fun h b _ => h b⟩

/-- The part at the end of the load (R50, R111, R149). -/
def State.loaded (v : State) : State := ({ v with
  part := .running, link := .up, outbound := v.outbound ++ [.ready], timer := some v.settings.tickInterval } : State).raise
    .loadDone none none (.load v.summary)

theorem State.tryLoadEnd_ends (h : s.loadPos = 64) (hb : ∀ b, (s.bank b).precharged = true) : s.tryLoadEnd = s.loaded := by
  rw [State.tryLoadEnd, if_pos ⟨h, State.allPrecharged_iff.mpr hb⟩]
  rfl

theorem State.tryLoadEnd_unprecharged {c : Bank} (h : (s.bank c).precharged = false) : s.tryLoadEnd = s := by
  rw [State.tryLoadEnd, if_neg]
  rintro ⟨-, hall⟩
  have := State.allPrecharged_iff.mp hall c
  rw [h] at this
  cases this

/-- One past the highest slot that is not BLANK (R148). -/
theorem nextFreeOf_eq {im : Vector Image 64} {k : Nat} (hk : k ≤ 64) (hb : ∀ n : FuseNo, k ≤ n.val → im.get n = .blank)
    (hn : ∀ n : FuseNo, n.val + 1 = k → im.get n ≠ .blank) : nextFreeOf im = k := by
  refine Nat.le_antisymm ((nextFreeOf_le_iff im k).mpr hb) (Nat.le_of_not_lt fun hlt => ?_)
  exact hn ⟨k - 1, by omega⟩ (by simp only; omega) ((nextFreeOf_le_iff im (k - 1)).mp (by omega) _ (Nat.le_refl _))

theorem State.completeSummary_completes {k : Nat} (h : s.loadPos = 64) (hk : nextFreeOf s.image = k) : s.completeSummary =
    { s with nextFree := k, summary := { s.summary with skipped := skippedOf s.image k, nextFree := some k } } := by
  simp only [State.completeSummary, if_pos h, hk]

/-- Settles O51: the last precharge, or the last slot, ends the load. -/
theorem loadEnds : Obligations.LoadEnds := by
  unfold Obligations.LoadEnds
  intro running
  refine ⟨fun b s hp => ?_, fun weak s hp hpos => ?_⟩
  · have done (h : (s.bank b).precharged = false) : exec (.loadingPrechargeDone b) s =
        .next ((s.port [.prechargeBank b]).setBank b { s.bank b with precharged := true }).tryLoadEnd := by
      simp only [exec, execLoadingPrechargeDone, hp, h, and_self, if_true]
    refine ⟨fun h hw => ?_, fun h hpos hb => ?_, fun h => ?_⟩
    · rw [done h]
      rcases hw with hpos | ⟨c, hc, hcp⟩
      · exact congrArg Host.Outcome.next (State.tryLoadEnd_waits hpos)
      · rw [State.tryLoadEnd_unprecharged (c := c) (by rw [State.bank_setBank_of_ne _ _ hc]; exact hcp)]
    · rw [done h]
      refine congrArg Host.Outcome.next (State.tryLoadEnd_ends hpos fun c => ?_)
      rw [State.bank_setBank]
      split
      · rfl
      · next hc => exact hb c hc
    · simp only [exec, execLoadingPrechargeDone, h, Bool.true_eq_false, and_false, if_false]
  · intro f u read
    refine loadReads_of_takes (n := 63) (read := read) fun t im u h => ?_
    intro k hk slots hblank hlast
    have next : nextFreeOf (s.image.set 63 im) = k := nextFreeOf_eq hk hblank hlast
    rw [execLoadSlotRead_loading (n := 63) weak hp hpos, h.loadSlot, State.completeSummary_completes rfl next]
    split
    · next hall => exact congrArg Host.Outcome.next (State.tryLoadEnd_ends rfl fun c => (h.precharged c).trans (hall c))
    · next hall =>
      obtain ⟨c, hc⟩ := not_forall.mp hall
      refine congrArg Host.Outcome.next (State.tryLoadEnd_unprecharged (c := c) ?_)
      exact (h.precharged c).trans (Bool.eq_false_iff.mpr hc)
end

end Sys2Proof.Machine
end

section
/-! The tracker's counts and the reports of faulty rows (O33 to O35). -/
namespace Sys2Proof.Machine
open Sys2Proof

/-! ### The place of the smallest count -/

/-- A fold that keeps the smaller of two indices finds the lowest index of the smallest value. -/
theorem foldl_smallest {n : Nat} {c : Fin n → Nat} {i : Fin n} (h : ∀ j, c i ≤ c j ∧ (j < i → c i < c j)) (l : List (Fin n))
    (hs : l.Pairwise (· < ·)) (best : Fin n) (hi : i = best ∨ c i < c best ∧ i ∈ l) :
    l.foldl (fun best j => if c j < c best then j else best) best = i := by
  induction l generalizing best with
  | nil =>
    rcases hi with rfl | ⟨-, hm⟩
    · rfl
    · cases hm
  | cons j l ih =>
    obtain ⟨hj, hs⟩ := List.pairwise_cons.mp hs
    rw [List.foldl_cons]
    refine ih hs _ ?_
    rcases hi with rfl | ⟨hlt, hm⟩
    · rw [if_neg (Nat.not_lt.mpr (h j).1)]
      exact .inl rfl
    · rcases List.mem_cons.mp hm with rfl | hm
      · rw [if_pos hlt]
        exact .inl rfl
      · refine .inr ⟨?_, hm⟩
        split
        · exact (h j).2 (hj i hm)
        · exact hlt

/-- Such a fold finds a smallest value. -/
theorem foldl_smallest_le {n : Nat} (c : Fin n → Nat) (l : List (Fin n)) (best : Fin n) :
    c (l.foldl (fun best j => if c j < c best then j else best) best) ≤ c best
      ∧ ∀ j ∈ l, c (l.foldl (fun best j => if c j < c best then j else best) best) ≤ c j := by
  induction l generalizing best with
  | nil => exact ⟨Nat.le_refl _, nofun⟩
  | cons j l ih =>
    obtain ⟨hb, hl⟩ := ih (if c j < c best then j else best)
    rw [List.foldl_cons]
    have below : c (if c j < c best then j else best) ≤ c best ∧ c (if c j < c best then j else best) ≤ c j := by
      split <;> omega
    refine ⟨hb.trans below.1, fun k hk => ?_⟩
    rcases List.mem_cons.mp hk with rfl | hk
    · exact hb.trans below.2
    · exact hl k hk

section
variable {t : Vector (Option TrackEntry) 6} {p : PRow} {i : Fin 6} {T : Nat}

theorem slotCount_some {e : TrackEntry} (h : t.get i = some e) : slotCount t i = e.count := by
  simp [slotCount, h]

theorem slotCount_smallestSlot_le (t : Vector (Option TrackEntry) 6) (j : Fin 6) : slotCount t (smallestSlot t) ≤ slotCount t j :=
  (foldl_smallest_le (slotCount t) (List.finRange 6) 0).2 j (List.mem_finRange j)

theorem smallestSlot_eq (h : ∀ j, slotCount t i ≤ slotCount t j ∧ (j < i → slotCount t i < slotCount t j)) : smallestSlot t = i := by
  refine foldl_smallest h _ (List.pairwise_lt_finRange 6) 0 ?_
  by_cases h0 : i = 0
  · exact .inl h0
  · exact .inr ⟨(h 0).2 (Fin.pos_of_ne_zero h0), List.mem_finRange i⟩

/-! ### Where an activation is counted -/

theorem trackSlot_eq {n : Nat}
    (hu : ∀ i j : Fin 6, (t.get i).isSome = true → (t.get i).map TrackEntry.row = (t.get j).map TrackEntry.row → i = j)
    (hi : t.get i = some { row := p, count := n }) : trackSlot t p = some i := by
  refine find_finRange_unique (by simp [hi]) fun j hj => ?_
  cases hx : t.get j with
  | none => simp [hx] at hj
  | some e => exact hu j i (by simp [hx]) (by simpa [hx, hi] using hj)

theorem trackSlot_some (h : trackSlot t p = some i) : ∃ n, t.get i = some { row := p, count := n } := by
  have hi := List.find?_some h
  cases hx : t.get i with
  | none => simp [hx] at hi
  | some e =>
    obtain ⟨r, n⟩ := e
    obtain rfl : r = p := by simpa [hx] using hi
    exact ⟨n, rfl⟩

theorem trackSlot_eq_none : trackSlot t p = none ↔ ∀ i e, t.get i = some e → e.row ≠ p := by
  unfold trackSlot
  rw [find_finRange_none]
  refine forall_congr' fun i => ?_
  cases t.get i <;> simp

theorem emptySlot_eq (hi : t.get i = none) (hl : ∀ j, j < i → t.get j ≠ none) : emptySlot t = some i :=
  find_finRange_least (by simp [hi]) fun j hj => by simpa using Option.isSome_iff_ne_none.mpr (hl j hj)

theorem emptySlot_eq_none : emptySlot t = none ↔ ∀ i, ∃ e, t.get i = some e := by
  unfold emptySlot
  rw [find_finRange_none]
  refine forall_congr' fun i => ?_
  cases t.get i <;> simp

/-- A count that rises, up to the threshold. -/
theorem countedAt_entry (ht : trackSlot t p = some i) {n : Nat} (hi : slotCount t i = n) :
    countedAt t T p = (i, if n + 1 < T then n + 1 else T) := by
  simp only [countedAt, ht, hi]

theorem countedAt_empty (ht : trackSlot t p = none) (he : emptySlot t = some i) : countedAt t T p = (i, 1) := by
  simp only [countedAt, ht, he]

theorem countedAt_full (ht : trackSlot t p = none) (he : emptySlot t = none) {n : Nat} (hi : slotCount t (smallestSlot t) = n) :
    countedAt t T p = (smallestSlot t, if n + 1 < T then n + 1 else T) := by
  simp only [countedAt, ht, he, hi]
  split
  · rw [Nat.min_eq_left (by omega)]
  · rw [Nat.min_eq_right (by omega)]

theorem offers_counted {n : Nat} (hc : countedAt t T p = (i, if n + 1 < T then n + 1 else T))
    (ho : (trackSlot t p).isSome = true ∨ (emptySlot t).isNone = true) : offers t T p = decide (T ≤ n + 1) := by
  have full : ((trackSlot t p).isSome || (emptySlot t).isNone) = true := by simpa using ho
  rw [offers, full, Bool.and_true, hc]
  refine decide_eq_decide.mpr ?_
  split <;> omega

theorem offers_empty (ht : trackSlot t p = none) (he : emptySlot t = some i) : offers t T p = false := by
  simp [offers, ht, he]

theorem offerOf_eq_refused {q : List PRow} : offerOf q p = .refused ↔ p ∉ q ∧ 4 ≤ q.length := by
  unfold offerOf
  split
  · next h => exact iff_of_false nofun fun h' => h'.1 h
  · next h =>
    split
    · next hl => exact iff_of_false nofun fun h' => absurd h'.2 (Nat.not_le.mpr hl)
    · next hl => exact iff_of_true rfl ⟨h, Nat.le_of_not_lt hl⟩

/-- The tracker and queue when the count in slot i rises to m, or reaches the threshold (R93 to R96). -/
def BankState.countedTo (x : BankState) (T : Nat) (p : PRow) (i : Fin 6) (m : Nat) : BankState :=
  let put := fun (n : Nat) => ({ x with tracker := x.tracker.set i.val (some { row := p, count := n }) i.isLt } : BankState)
  if m < T then put m
  else if p ∈ x.targets then put 0
  else if x.targets.length < 4 then { put 0 with targets := x.targets ++ [p] }
  else put T

theorem BankState.counted_eq {x : BankState} {n : Nat} (hc : countedAt x.tracker T p = (i, if n + 1 < T then n + 1 else T))
    (ho : (trackSlot x.tracker p).isSome = true ∨ (emptySlot x.tracker).isNone = true) : x.counted T p = x.countedTo T p i (n + 1) := by
  have offered := offers_counted hc ho
  unfold BankState.counted BankState.countedTo
  rw [hc, offered]
  by_cases hlt : n + 1 < T
  · simp only [if_pos hlt, decide_eq_false (Nat.not_le.mpr hlt), Bool.false_eq_true, if_false]
  · simp only [if_neg hlt, decide_eq_true (Nat.le_of_not_lt hlt), if_true]
    unfold offerOf
    by_cases hq : p ∈ x.targets
    · simp only [if_pos hq]
    · by_cases hl : x.targets.length < 4
      · have room : x.targets.length < Config.targetQueueLimit := hl
        simp only [if_neg hq, if_pos room, if_pos hl]
      · have room : ¬ x.targets.length < Config.targetQueueLimit := hl
        simp only [if_neg hq, if_neg room, if_neg hl]

/-- The rows that are offered: the count of an entry, or the smallest of a full tracker, is about to reach the threshold (R93, R95). -/
theorem offers_iff
    (hu : ∀ i j : Fin 6, (t.get i).isSome = true → (t.get i).map TrackEntry.row = (t.get j).map TrackEntry.row → i = j) :
    offers t T p = true ↔ (∃ i n, t.get i = some { row := p, count := n } ∧ T ≤ n + 1)
      ∨ ∀ i, ∃ e, t.get i = some e ∧ e.row ≠ p ∧ T ≤ e.count + 1 := by
  cases ht : trackSlot t p with
  | some i =>
    obtain ⟨n, he⟩ := trackSlot_some ht
    rw [offers_counted (countedAt_entry ht (slotCount_some he)) (.inl (by rw [ht]; rfl)), decide_eq_true_eq]
    constructor
    · exact fun h => .inl ⟨i, n, he, h⟩
    · rintro (⟨j, m, hj, hm⟩ | hall)
      · obtain rfl : i = j := Option.some.inj (ht.symm.trans (trackSlot_eq hu hj))
        rw [he] at hj
        cases hj
        exact hm
      · obtain ⟨e, he', hne, -⟩ := hall i
        rw [he] at he'
        cases he'
        exact absurd rfl hne
  | none =>
    have absent := trackSlot_eq_none.mp ht
    have noEntry : ¬ ∃ i n, t.get i = some { row := p, count := n } ∧ T ≤ n + 1 := fun ⟨i, n, hi, _⟩ => absent i _ hi rfl
    cases hemp : emptySlot t with
    | some i =>
      rw [offers_empty ht hemp]
      refine iff_of_false Bool.false_ne_true (not_or_intro noEntry fun hall => ?_)
      obtain ⟨e, he, -⟩ := hall i
      have := List.find?_some hemp
      simp [he] at this
    | none =>
      rw [offers_counted (countedAt_full ht hemp rfl) (.inr (by rw [hemp]; rfl)), decide_eq_true_eq]
      have entries := emptySlot_eq_none.mp hemp
      constructor
      · refine fun h => .inr fun i => ?_
        obtain ⟨e, he⟩ := entries i
        have := slotCount_smallestSlot_le t i
        rw [slotCount_some he] at this
        exact ⟨e, he, absent i e he, by omega⟩
      · rintro (h | hall)
        · exact absurd h noEntry
        · obtain ⟨e, he, -, hT⟩ := hall (smallestSlot t)
          rw [slotCount_some he]
          exact hT

/-- Settles O33: the slot, the count, and the offer. -/
theorem trackerCountsAnActivation : Obligations.TrackerCountsAnActivation := by
  refine ⟨fun T p x hT ⟨hu, _⟩ => ?_, fun b p s hT ⟨hu, _⟩ => ?_⟩
  · intro put counted
    refine ⟨fun i n hi => ?_, fun hn => ⟨fun i hi hl => ?_, fun i e hi hl => ?_⟩⟩
    · have found := trackSlot_eq hu hi
      exact BankState.counted_eq (countedAt_entry found (slotCount_some hi)) (.inl (by rw [found]; rfl))
    · have absent := trackSlot_eq_none.mpr hn
      have empty := emptySlot_eq hi hl
      show x.counted T p = put i 1
      unfold BankState.counted
      rw [countedAt_empty absent empty, offers_empty absent empty]
      rfl
    · have absent := trackSlot_eq_none.mpr hn
      have full : emptySlot x.tracker = none := emptySlot_eq_none.mpr fun j => (hl j).imp fun f hf => hf.1
      have place : smallestSlot x.tracker = i := smallestSlot_eq fun j => by
        obtain ⟨f, hf, hle, hlt⟩ := hl j
        rw [slotCount_some hi, slotCount_some hf]
        exact ⟨hle, hlt⟩
      have counts := countedAt_full (T := T) absent full rfl
      rw [place, slotCount_some hi] at counts
      exact BankState.counted_eq counts (.inr (by rw [full]; rfl))
  · dsimp only
    have refused : (offers (s.bank b).tracker s.settings.threshold p && decide (offerOf (s.bank b).targets p = .refused)) = true ↔
        p ∉ (s.bank b).targets ∧ 4 ≤ (s.bank b).targets.length
          ∧ ((∃ i n, (s.bank b).tracker.get i = some { row := p, count := n } ∧ s.settings.threshold ≤ n + 1)
            ∨ ∀ i, ∃ e, (s.bank b).tracker.get i = some e ∧ e.row ≠ p ∧ s.settings.threshold ≤ e.count + 1) := by
      rw [Bool.and_eq_true, decide_eq_true_eq, offerOf_eq_refused, offers_iff hu]
      exact ⟨fun ⟨ho, hn, hl⟩ => ⟨hn, hl, ho⟩, fun ⟨hn, hl, ho⟩ => ⟨ho, hn, hl⟩⟩
    rw [← refused]
    exact ⟨fun h => if_pos h, fun h => if_neg h⟩
end

/-! ### Reports -/

section
variable {s u : State} {p : Report} {e : Suspect} {l : List Suspect}

/-- A REPORT's record e counted and the rest l of the list, with the state u in which a full list has evicted its last record (R127,
R128). -/
def CountsAs (p : Report) (s : State) (e : Suspect) (l : List Suspect) (u : State) : Prop :=
  (∃ l₁ f l₂, s.suspectList = l₁ ++ f :: l₂ ∧ f.bank = p.bank ∧ f.row = p.row ∧ (∀ g ∈ l₁ ++ l₂, ¬ (g.bank = p.bank ∧ g.row = p.row))
      ∧ e = { f with
              corrected := if p.kind = .corrected then min 255 (f.corrected + 1) else f.corrected
              uncorrected := if p.kind = .corrected then f.uncorrected else min 15 (f.uncorrected + 1) }
      ∧ l = l₁ ++ l₂ ∧ u = s)
  ∨ ((∀ g ∈ s.suspectList, ¬ (g.bank = p.bank ∧ g.row = p.row))
      ∧ e = { bank := p.bank, row := p.row, flagged := false
              corrected := if p.kind = .corrected then 1 else 0, uncorrected := if p.kind = .corrected then 0 else 1 }
      ∧ (s.suspectList.length < 32 ∧ l = s.suspectList ∧ u = s
        ∨ ∃ f, s.suspectList = l ++ [f] ∧ l.length = 31
            ∧ u = s.raise .suspectEvicted (some f.bank) (some f.row) (.evicted f.corrected f.uncorrected f.flagged)))

theorem Suspect.count_eq (k : ReportKind) (f : Suspect) : f.count k = { f with
    corrected := if k = .corrected then min 255 (f.corrected + 1) else f.corrected
    uncorrected := if k = .corrected then f.uncorrected else min 15 (f.uncorrected + 1) } := by
  cases k <;> rfl

theorem Suspect.first_eq (b : Bank) (r : LRow) (k : ReportKind) : Suspect.first b r k = {
    bank := b, row := r, flagged := false
    corrected := if k = .corrected then 1 else 0, uncorrected := if k = .corrected then 0 else 1 } := by
  cases k <;> rfl

theorem CountsAs.countReport (h : CountsAs p s e l u) :
    s.countReport p.bank p.row p.kind = ({ u with suspectList := e :: l }, e) := by
  rcases h with ⟨l₁, f, l₂, hl, hb, hr, hu, he, rfl, rfl⟩ | ⟨hn, he, hroom⟩
  · rw [← Suspect.count_eq] at he
    rw [← hb, ← hr] at hu ⊢
    have found : suspectOf (l₁ ++ f :: l₂) f.bank f.row = some f := suspectOf_eq fun g hg => hu g (List.mem_append_left _ hg)
    simp only [State.countReport, hl, found, withoutSuspect_eq hu, he]
  · rw [← Suspect.first_eq] at he
    rcases hroom with ⟨hlen, rfl, rfl⟩ | ⟨f, hl, hlen, rfl⟩
    · have room : ¬ Config.suspectLimit ≤ u.suspectList.length := Nat.not_le.mpr hlen
      simp only [State.countReport, suspectOf_eq_none.mpr hn, if_neg room, he]
    · have full : Config.suspectLimit ≤ s.suspectList.length := by
        rw [hl, List.length_append, hlen]
        exact Nat.le_refl 32
      have evicted : s.evictLast = { s.raise .suspectEvicted (some f.bank) (some f.row) (.evicted f.corrected f.uncorrected f.flagged) with
          suspectList := l } := by
        simp only [State.evictLast, hl, List.getLast?_concat, List.dropLast_concat]
        rfl
      simp only [State.countReport, suspectOf_eq_none.mpr hn, if_pos full, evicted, he]

/-- Counting leaves all but the list and a notice. -/
theorem CountsAs.frame (h : CountsAs p s e l u) : u = { s with notices := u.notices, alert := u.alert } ∧ e.bank = p.bank ∧ e.row = p.row := by
  rcases h with ⟨l₁, f, l₂, -, hb, hr, -, rfl, -, rfl⟩ | ⟨-, rfl, ⟨-, -, rfl⟩ | ⟨f, -, -, rfl⟩⟩
  · exact ⟨rfl, hb, hr⟩
  · exact ⟨rfl, rfl, rfl⟩
  · exact ⟨rfl, rfl, rfl⟩

/-- A REPORT taken off its lane, with its DONE (R61, R126). -/
theorem exec_reportTake {rest : List Report} {t : State} (hr : s.reportLane = p :: rest) (ht : s.takeReport p.bank p.row p.kind = t)
    (hl : t.link = .up) (ho : t.outbound = s.outbound) : exec .reportTake s =
      .next { t with reportLane := rest, outbound := s.outbound ++ [.reply p.tag none .done] } := by
  simp only [exec, execReportTake, hr, ht]
  rw [← ho]
  exact congrArg Host.Outcome.next (if_pos hl)

theorem CountsAs.takeReport (h : CountsAs p s e l u) : s.takeReport p.bank p.row p.kind =
    if e.meets s.settings then ({ u with suspectList := e :: l } : State).evaluate p.kind e else { u with suspectList := e :: l } := by
  obtain ⟨frame, -, -⟩ := h.frame
  have settings : u.settings = s.settings := by rw [frame]
  simp only [State.takeReport, h.countReport, settings]

/-- A REPORT whose record meets no threshold only counts (R129). -/
theorem CountsAs.reportCounted {rest : List Report} (h : CountsAs p s e l u) (hr : s.reportLane = p :: rest) (hl : s.link = .up)
    (hc : e.corrected < s.settings.correctedThr) (hu : e.uncorrected < s.settings.uncorrectedThr) : exec .reportTake s =
      .next { u with suspectList := e :: l, reportLane := rest, outbound := s.outbound ++ [.reply p.tag none .done] } := by
  have below : e.meets s.settings = false := by simp [Suspect.meets, hc, hu]
  have taken : s.takeReport p.bank p.row p.kind = { u with suspectList := e :: l } := by
    rw [h.takeReport, below]
    rfl
  obtain ⟨frame, -, -⟩ := h.frame
  exact exec_reportTake hr taken (by rw [frame]; exact hl) (by rw [frame])

/-- Settles O34: the three ways a REPORT is counted. -/
theorem reportIsCounted : Obligations.ReportIsCounted := by
  intro p rest s hr hl hlen
  dsimp only
  refine ⟨fun l e l' he hb hrow hu hc hv => ?_, fun hn hc hv => ⟨fun hroom => ?_, fun l e he hfull => ?_⟩⟩
  · exact CountsAs.reportCounted (.inl ⟨l, e, l', he, hb, hrow, hu, rfl, rfl, rfl⟩) hr hl hc hv
  · exact CountsAs.reportCounted (.inr ⟨hn, rfl, .inl ⟨hroom, rfl, rfl⟩⟩) hr hl hc hv
  · exact CountsAs.reportCounted (.inr ⟨hn, rfl, .inr ⟨e, he, hfull, rfl⟩⟩) hr hl hc hv

/-- The list of suspects plays no part in taking a job. -/
theorem State.takeJob_suspects (s : State) (l : List Suspect) :
    ({ s with suspectList := l } : State).takeJob = { s.takeJob with suspectList := l } := by
  have job (b : Bank) (r : LRow) : ({ s with suspectList := l } : State).jobOf b r = s.jobOf b r := rfl
  unfold State.takeJob
  dsimp only
  split
  · next b r q ha hq =>
    rw [job]
    cases s.jobOf b r <;> rfl
  · rfl

/-- A REPORT whose record meets a threshold is evaluated (R129). -/
theorem CountsAs.reportEvaluated {rest : List Report} {t : State} (h : CountsAs p s e l u) (hr : s.reportLane = p :: rest)
    (hm : s.settings.correctedThr ≤ e.corrected ∨ s.settings.uncorrectedThr ≤ e.uncorrected)
    (ht : ({ u with suspectList := e :: l } : State).evaluate p.kind e = t) (hl : t.link = .up) (ho : t.outbound = s.outbound) :
    exec .reportTake s = .next { t with reportLane := rest, outbound := s.outbound ++ [.reply p.tag none .done] } := by
  have meets : e.meets s.settings = true := by simpa [Suspect.meets] using hm
  have taken : s.takeReport p.bank p.row p.kind = t := by
    rw [h.takeReport, if_pos meets, ht]
  exact exec_reportTake hr taken hl ho

/-- Settles O35: the steer claim's outcome decides between the flag and the steer. -/
theorem reportIsEvaluated : Obligations.ReportIsEvaluated := by
  intro p rest e l s u hr hl hlen hcount hm
  have h : CountsAs p s e l u := hcount
  obtain ⟨frame, hb, hrow⟩ := h.frame
  have link : u.link = .up := by rw [frame]; exact hl
  have out : u.outbound = s.outbound := by rw [frame]
  have auto : u.settings.autoSteer = s.settings.autoSteer := by rw [frame]
  generalize hv : ({ u with suspectList := e :: l } : State) = v
  have bank : v.bank p.bank = s.bank p.bank := by rw [← hv, frame]; rfl
  have queue : v.migQueue = s.migQueue := by rw [← hv, frame]
  have evaluated {t : State} := h.reportEvaluated (t := t) hr hm
  have autoV : v.settings.autoSteer = s.settings.autoSteer := by rw [← hv]; exact auto
  have flagged : v.flagFront = { u with suspectList := { e with flagged := true } :: l } := by rw [← hv]; rfl
  rw [hv] at evaluated
  dsimp only
  refine ⟨fun ha => ?_, fun ha ht => ?_⟩
  · refine (evaluated (t := v.flagFront) ?_ (by rw [flagged]; exact link) (by rw [flagged]; exact out)).trans (by rw [flagged])
    simp [State.evaluate, autoV, ha]
  · rw [← bank] at ht
    have on : v.settings.autoSteer = true := autoV.trans ha
    have steered (x : BankState) (d : Spare) (f : Option Spare)
        (hy : v.steerClaim p.bank p.row .auto = ((v.setBank p.bank x).queueJob p.bank p.row, .steering d f)) :
        exec .reportTake s = .next { (u.setBank p.bank x).queueJob p.bank p.row with
          suspectList := l, reportLane := rest, outbound := s.outbound ++ [.reply p.tag none .done] } := by
      have joined : (v.setBank p.bank x).queueJob p.bank p.row =
          { (u.setBank p.bank x).queueJob p.bank p.row with suspectList := e :: l } := by
        rw [← hv]
        exact State.takeJob_suspects { u.setBank p.bank x with migQueue := u.migQueue ++ [(p.bank, p.row)] } (e :: l)
      have kept := State.queueJob_frame p.bank p.row (u.setBank p.bank x)
      refine (evaluated (t := { (u.setBank p.bank x).queueJob p.bank p.row with suspectList := l }) ?_ ?_ ?_)
      · simp only [State.evaluate, on, if_true, hb, hrow, hy, joined]
        rfl
      · rw [kept]
        exact link
      · rw [kept]
        exact out
    have flags (w : SteerOutcome) (hw : w = .busy ∨ w = .queueFull) (hy : v.steerClaim p.bank p.row .auto = (v, w)) :
        exec .reportTake s = .next { u with
          suspectList := { e with flagged := true } :: l, reportLane := rest, outbound := s.outbound ++ [.reply p.tag none .done] } := by
      refine evaluated (t := { u with suspectList := { e with flagged := true } :: l }) ?_ link out
      rcases hw with rfl | rfl <;> simp only [State.evaluate, on, if_true, hb, hrow, hy, flagged]
    refine ⟨fun d c hd hc => ?_, fun hn d hd hq => ?_, fun ha' => ⟨fun hd => ?_, fun hd hq => ?_⟩⟩
    · have hf := BankState.recOf_eq ht (by rw [bank]; exact hd) hc
      refine ⟨fun n hs => ?_, fun hs => flags _ (.inl rfl) (State.steerClaim_busy hf hs), fun hs d' hd' hq => ?_⟩
      · refine evaluated (t := (State.raise .sealedRowFaulty (some p.bank) (some p.row) (.faulty p.kind e.corrected e.uncorrected)
          { u with suspectList := { e with flagged := true } :: l })) ?_ link out
        simp only [State.evaluate, on, if_true, hb, hrow, State.steerClaim_sealed hf ⟨n, hs⟩, flagged]
      · rw [← bank]
        exact steered _ d' (some d) (State.steerClaim_again hf hs (by rw [bank]; exact hd') (by rw [queue]; exact hq))
    · rw [← bank]
      exact steered _ d none (State.steerClaim_new (by rw [bank]; exact hn) (by rw [bank]; exact hd) (by rw [queue]; exact hq))
    · refine evaluated (t := (State.raise .sparesExhausted (some p.bank) (some p.row) (.origin .auto)
          { u with suspectList := { e with flagged := true } :: l })) ?_ link out
      have refused := (State.steerClaim_refused (o := .auto) ht (by rw [bank]; exact ha')).1 (by rw [bank]; exact hd)
      simp only [State.evaluate, on, if_true, hb, hrow, refused]
      rw [← hv, ← hb, ← hrow]
      rfl
    · exact flags _ (.inr rfl) ((State.steerClaim_refused ht (by rw [bank]; exact ha')).2 (by rw [bank]; exact hd) (by rw [queue]; exact hq))
end

end Sys2Proof.Machine
end

section
/-! The sweep slots and target service (O30, O31). -/
namespace Sys2Proof.Machine
open Sys2Proof

section
variable {s : State} {b : Bank}

/-! ### The end of a refresh job -/

/-- A SWEEP job whose REFRESH is in progress ends with its DONE (R117). -/
theorem State.afterService_done {x : BankState} {o : LaneOrder} {rest : List LaneOrder} (hs : x.shadow = .claimed .sweep)
    (hip : x.inProgress = some .sweeping) (hlane : x.lane = o :: rest) (hl : s.link = .up) : (s.setBank b x).afterService b =
      { s.setBank b { x with service := none, shadow := .closed, inProgress := none, lane := rest } with
        outbound := s.outbound ++ [.reply o.tag (some b) .done] } := by
  have closed : (s.setBank b x).afterService b = (s.setBank b { x with service := none, shadow := .closed }).endOrder b .done := by
    simp only [State.afterService, State.bank_setBank_self, hs, hip, Option.isSome_some, if_true, State.setBank_setBank]
  have ended := State.endOrder_up (s := s.setBank b { x with service := none, shadow := .closed }) (b := b) (body := .done) hl
    (by rw [State.bank_setBank_self]; exact hlane) (by rw [State.bank_setBank_self]; exact fun _ => rfl)
  rw [closed, ended, State.bank_setBank_self, State.setBank_setBank]
  rfl

/-- A SWEEP job whose REFRESH a link reset has discarded ends without a reply (R117). -/
theorem State.afterService_discarded {x : BankState} (hs : x.shadow = .claimed .sweep) (hip : x.inProgress = none) :
    (s.setBank b x).afterService b = s.setBank b { x with service := none, shadow := .closed } := by
  simp only [State.afterService, State.bank_setBank_self, hs, hip, Option.isSome_none, Bool.false_eq_true, if_false,
    State.setBank_setBank]

/-- A FORCED job ends below the urgent level and otherwise begins the next slot (R116). -/
theorem State.afterService_forced {x : BankState} (hs : x.shadow = .claimed .forced) : (s.setBank b x).afterService b = s.setBank b
    (if x.debt < s.settings.urgentLevel then { x with shadow := .closed, service := none }
      else { x with slot := some x.pointer, service := none }) := by
  unfold State.afterService
  simp only [State.bank_setBank_self, hs, State.setBank_setBank, BankState.beginSlot]
  split
  · next hlt => rw [if_pos (show x.debt < s.settings.urgentLevel from hlt)]
  · next hlt =>
    rw [if_neg (show ¬ x.debt < s.settings.urgentLevel from hlt), ← hs]

/-! ### Sweep slots -/

/-- Rows whose numbers are in range are all there, in their order. -/
theorem filterMap_toFin?_val {n : Nat} {f : Nat → Nat} (l : List Nat) (h : ∀ i ∈ l, f i < n) :
    (l.filterMap fun i => toFin? n (f i)).map Fin.val = l.map f := by
  induction l with
  | nil => rfl
  | cons i l ih =>
    have found : toFin? n (f i) = some ⟨f i, h i (List.mem_cons_self ..)⟩ := toFin?_eq_some.mpr rfl
    rw [List.filterMap_cons_some (f := fun i => toFin? n (f i)) found, List.map_cons, List.map_cons, ih fun j hj => h j (List.mem_cons_of_mem _ hj)]

theorem mem_slotRows {k : Nat} {p : PRow} : p ∈ slotRows k ↔ p.val / 8 = k := by
  unfold slotRows
  simp only [List.mem_filterMap, List.mem_range, toFin?_eq_some]
  exact ⟨fun ⟨i, hi, h⟩ => by omega, fun h => ⟨p.val % 8, by omega, by omega⟩⟩

/-- The bank when slot k completes (R103, R110). -/
theorem BankState.slotDone_eq (x : BankState) (U k : Nat) : x.slotDone U k = { x with
    slot := none
    pointer := if k = 4096 then 0 else k + 1
    tracker := if k = 4096 then Vector.replicate 6 none else x.tracker
    debt := if 0 < x.debt then x.debt - 1 else 0
    need := if 0 < x.debt ∧ x.debt - 1 < U then false else x.need } := by
  have debt : x.debt - 1 = if 0 < x.debt then x.debt - 1 else 0 := by split <;> omega
  unfold BankState.slotDone
  rw [← debt]
  rfl

theorem State.completeSlot_eq {k : Nat} (hk : (s.bank b).slot = some k) : exec (.slotCompletion b) s =
    .next (((s.port ((slotRows k).map (.refreshRow b))).setBank b ((s.bank b).slotDone s.settings.urgentLevel k)).beginService b) := by
  simp only [exec, execSlotCompletion, hk, State.completeSlot]

/-- Target service begins with the head of the queue (R101). -/
theorem State.beginService_takes {x : BankState} {p : PRow} {q : List PRow} (ht : x.targets = p :: q) (hn : 0 < s.settings.targetsPerRef) :
    (s.setBank b x).beginService b = s.setBank b
      { x with service := some { left := s.settings.targetsPerRef - 1, current := some (p, s.settings.reach) }, targets := q } := by
  have taken : ({ x with service := some { left := s.settings.targetsPerRef, current := none } } : BankState).takeTarget s.settings.reach =
      { x with service := some { left := s.settings.targetsPerRef - 1, current := some (p, s.settings.reach) }, targets := q } := by
    simp only [BankState.takeTarget, ht, if_pos hn]
  simp only [State.beginService, State.bank_setBank_self, State.setBank_settings, taken, State.setBank_setBank]

/-- Target service with nothing to service ends at once (R101). -/
theorem State.beginService_ends {x : BankState} (h : x.targets = [] ∨ s.settings.targetsPerRef = 0) : (s.setBank b x).beginService b =
    (s.setBank b { x with service := some { left := s.settings.targetsPerRef, current := none } }).afterService b := by
  have taken : ({ x with service := some { left := s.settings.targetsPerRef, current := none } } : BankState).takeTarget s.settings.reach =
      { x with service := some { left := s.settings.targetsPerRef, current := none } } := by
    unfold BankState.takeTarget
    cases ht : x.targets with
    | nil => rfl
    | cons p q =>
      have none : s.settings.targetsPerRef = 0 := h.resolve_left (by rw [ht]; exact nofun)
      simp only [none, Nat.lt_irrefl, if_false]
  simp only [State.beginService, State.bank_setBank_self, State.setBank_settings, taken, State.setBank_setBank]

/-- Settles O30: the slot's rows, and the service that follows. -/
theorem slotCompletes : Obligations.SlotCompletes := by
  refine ⟨fun k hk => filterMap_toFin?_val _ fun i hi => ?_, by decide, fun p => ⟨p.val / 8, ⟨?_, mem_slotRows.mpr rfl⟩, fun k hk => ?_⟩,
    fun b k s hk => ?_⟩
  · have := List.mem_range.mp hi
    omega
  · have := p.isLt
    omega
  · exact (mem_slotRows.mp hk.2).symm
  · dsimp only
    rw [State.completeSlot_eq hk, BankState.slotDone_eq]
    refine ⟨fun p q ht hn => ?_, fun h => ⟨fun o rest hs hip hlane hl => ?_, fun hs hip => ?_, fun hs => ?_⟩⟩
    · exact congrArg Host.Outcome.next (State.beginService_takes ht hn)
    · rw [State.beginService_ends (by exact h), State.afterService_done (by exact hs) (by exact hip) (by exact hlane) (by exact hl)]
      rfl
    · rw [State.beginService_ends (by exact h), State.afterService_discarded (by exact hs) (by exact hip)]
    · rw [State.beginService_ends (by exact h), State.afterService_forced (by exact hs)]
      rfl

/-! ### Target service -/

theorem State.serviceOne_takes {n reach : Nat} {p q : PRow} {qs : List PRow}
    (hv : (s.bank b).service = some { left := n, current := some (p, reach) }) (ht : (s.bank b).targets = q :: qs) (hn : 0 < n) :
    s.serviceOne b = (s.port ((neighbours reach p).map (.refreshRow b))).setBank b
      { s.bank b with service := some { left := n - 1, current := some (q, s.settings.reach) }, targets := qs } := by
  simp only [State.serviceOne, hv, BankState.takeTarget, ht, if_pos hn]

theorem State.serviceOne_last {n reach : Nat} {p : PRow}
    (hv : (s.bank b).service = some { left := n, current := some (p, reach) }) (h : (s.bank b).targets = [] ∨ n = 0) :
    s.serviceOne b = (s.port ((neighbours reach p).map (.refreshRow b))).setBank b
      { s.bank b with service := some { left := n, current := none } } := by
  simp only [State.serviceOne, hv, BankState.takeTarget]
  cases ht : (s.bank b).targets with
  | nil => rfl
  | cons q qs =>
    have none : n = 0 := h.resolve_left (by rw [ht]; exact nofun)
    simp only [none, Nat.lt_irrefl, if_false]

theorem State.serviceOne_none {n : Nat} (hv : (s.bank b).service = some { left := n, current := none }) : s.serviceOne b = s := by
  simp only [State.serviceOne, hv]

theorem State.serviceMany_none {n : Nat} (m : Nat) (hv : (s.bank b).service = some { left := n, current := none }) :
    State.serviceMany b m s = s := by
  induction m with
  | zero => rfl
  | succ m ih => rw [State.serviceMany, State.serviceOne_none hv, ih]

/-- The neighbours of an aggressor, refreshed. -/
def refreshNeighbours (b : Bank) (reach : Nat) (p : PRow) : List StackOp := (neighbours reach p).map (StackOp.refreshRow b)

/-- Target service run to its end: the aggressor being serviced and those that it may still take (R101). -/
theorem State.serviceMany_runs (n : Nat) (s : State) {p : PRow} {reach : Nat}
    (hv : (s.bank b).service = some { left := n, current := some (p, reach) }) : ∃ left, State.serviceMany b (n + 1) s =
      (s.port (refreshNeighbours b reach p ++ ((s.bank b).targets.take n).flatMap (refreshNeighbours b s.settings.reach))).setBank b
        { s.bank b with service := some { left := left, current := none }, targets := (s.bank b).targets.drop n } := by
  induction n generalizing s p reach with
  | zero =>
    refine ⟨0, ?_⟩
    rw [State.serviceMany, State.serviceOne_last hv (.inr rfl), State.serviceMany, List.take_zero, List.drop_zero, List.flatMap_nil,
      List.append_nil]
    rfl
  | succ n ih =>
    cases ht : (s.bank b).targets with
    | nil =>
      refine ⟨n + 1, ?_⟩
      rw [State.serviceMany, State.serviceOne_last hv (.inl ht), State.serviceMany_none (n := n + 1) _ (by rw [State.bank_setBank_self]),
        List.take_nil, List.drop_nil, List.flatMap_nil, List.append_nil, ← ht]
      rfl
    | cons q qs =>
      have step := State.serviceOne_takes hv ht (Nat.succ_pos n)
      have next : ((s.serviceOne b).bank b).service = some { left := n, current := some (q, s.settings.reach) } := by
        rw [step, State.bank_setBank_self]
        rfl
      obtain ⟨left, runs⟩ := ih (s.serviceOne b) next
      refine ⟨left, ?_⟩
      rw [State.serviceMany, runs, step, State.bank_setBank_self, List.take_succ_cons, List.drop_succ_cons, List.flatMap_cons,
        State.port_setBank, State.setBank_setBank, State.port, State.port, State.port, List.append_assoc]
      rfl

/-- The end of a target service whose row refreshes lead to s' (R101, R116, R117). -/
theorem State.endService_ends {n : Nat} {current : Option (PRow × Nat)} {s' : State} {v : Option Service} {targets : List PRow}
    (hv : (s.bank b).service = some { left := n, current := current })
    (runs : State.serviceMany b (n + 1) s = s'.setBank b { s.bank b with service := v, targets := targets })
    (link : s'.link = s.link) (settings : s'.settings = s.settings) (out : s'.outbound = s.outbound) :
    let y : BankState := { s.bank b with service := none, targets := targets }
    (∀ o rest, (s.bank b).shadow = .claimed .sweep → (s.bank b).inProgress = some .sweeping → (s.bank b).lane = o :: rest → s.link = .up →
      exec (.targetServiceEnd b) s = .next { s'.setBank b { y with shadow := .closed, inProgress := none, lane := rest } with
        outbound := s.outbound ++ [.reply o.tag (some b) .done] })
    ∧ ((s.bank b).shadow = .claimed .sweep → (s.bank b).inProgress = none →
      exec (.targetServiceEnd b) s = .next (s'.setBank b { y with shadow := .closed }))
    ∧ ((s.bank b).shadow = .claimed .forced → exec (.targetServiceEnd b) s = .next (s'.setBank b
        (if (s.bank b).debt < s.settings.urgentLevel then { y with shadow := .closed } else { y with slot := some (s.bank b).pointer }))) := by
  have ended : exec (.targetServiceEnd b) s =
      .next ((s'.setBank b { s.bank b with service := v, targets := targets }).afterService b) := by
    rw [← runs]
    simp only [exec, execTargetServiceEnd, State.endService, hv]
  refine ⟨fun o rest hs hip hlane hl => ?_, fun hs hip => ?_, fun hs => ?_⟩
  · rw [ended, State.afterService_done (by exact hs) (by exact hip) (by exact hlane) (link.trans hl), out]
  · rw [ended, State.afterService_discarded (by exact hs) (by exact hip)]
  · rw [ended, State.afterService_forced (by exact hs), settings]

/-- Settles O31: one aggressor serviced, and the service run to its end. -/
theorem targetServiceRuns : Obligations.TargetServiceRuns := by
  refine ⟨fun reach p _ => neighbours_ascending reach p, fun b n current s hv => ?_⟩
  dsimp only
  refine ⟨?_, ?_, ?_⟩
  · rintro p reach rfl
    exact ⟨fun q qs ht hn => congrArg Host.Outcome.next (State.serviceOne_takes hv ht hn),
      fun h => congrArg Host.Outcome.next (State.serviceOne_last hv h)⟩
  · rintro rfl
    exact congrArg Host.Outcome.next (State.serviceOne_none hv)
  · cases current with
    | none =>
      have runs : State.serviceMany b (n + 1) s = s.setBank b { s.bank b with service := (s.bank b).service, targets := (s.bank b).targets } :=
        (State.serviceMany_none _ hv).trans (s.setBank_bank b).symm
      exact State.endService_ends hv runs rfl rfl rfl
    | some c =>
      obtain ⟨left, runs⟩ := State.serviceMany_runs n s hv
      exact State.endService_ends hv runs rfl rfl rfl
end

end Sys2Proof.Machine
end

section
/-! The tick at every bank (O29). -/
namespace Sys2Proof.Machine
open Sys2Proof

/-! ### A LOST that stands unsent -/

theorem lostMerges_concat (b : Bank) (q : List OutMsg) (m : OutMsg) : lostMerges b (q ++ [m]) =
    match m with
    | .lost b' => lostMerges b q || decide (b' = b)
    | .reply _ (some b') _ => lostMerges b q && !decide (b' = b)
    | _ => lostMerges b q := by
  unfold lostMerges
  rw [List.foldl_append]
  rfl

/-- A further LOST is merged exactly while one stands unsent with no reply of the bank behind it (R65). -/
theorem lostMerges_iff {b : Bank} {q : List OutMsg} : lostMerges b q = true ↔
    ∃ l l', q = l ++ .lost b :: l' ∧ ∀ g body, OutMsg.reply g (some b) body ∉ l' := by
  induction q using List.reverseRecOn with
  | nil => exact iff_of_false Bool.false_ne_true (by simp)
  | append_singleton q m ih =>
    have last (hm : m ≠ .lost b) (hr : ∀ g body, m ≠ .reply g (some b) body) : lostMerges b q = true ↔
        ∃ l l', q ++ [m] = l ++ .lost b :: l' ∧ ∀ g body, OutMsg.reply g (some b) body ∉ l' := by
      rw [ih]
      constructor
      · rintro ⟨l, l', rfl, hl⟩
        refine ⟨l, l' ++ [m], by simp, fun g body hmem => ?_⟩
        rcases List.mem_append.mp hmem with h | h
        · exact hl g body h
        · exact hr g body (List.mem_singleton.mp h).symm
      · rintro ⟨l, l', hq, hl⟩
        rcases List.eq_nil_or_concat l' with rfl | ⟨l'', m', rfl⟩
        · exact absurd (List.append_inj' hq rfl).2 (by simpa using hm)
        · rw [List.concat_eq_append, ← List.cons_append, ← List.append_assoc] at hq
          obtain ⟨rfl, -⟩ := List.append_inj' hq rfl
          exact ⟨l, l'', rfl, fun g body hmem => hl g body (by simp [hmem])⟩
    rw [lostMerges_concat]
    cases m with
    | lost b' =>
      by_cases hb : b' = b
      · subst hb
        exact iff_of_true (by simp) ⟨q, [], rfl, by simp⟩
      · simp only [hb, decide_false, Bool.or_false]
        exact last (by simp [hb]) (by simp)
    | reply g source body =>
      cases source with
      | none => exact last nofun (by simp)
      | some b' =>
        by_cases hb : b' = b
        · subst hb
          simp only [decide_true, Bool.not_true, Bool.and_false]
          refine iff_of_false Bool.false_ne_true fun ⟨l, l', hq, hl⟩ => ?_
          rcases List.eq_nil_or_concat l' with rfl | ⟨l'', m', rfl⟩
          · exact absurd (List.append_inj' hq rfl).2 (by simp)
          · rw [List.concat_eq_append, ← List.cons_append, ← List.append_assoc] at hq
            obtain ⟨-, hm⟩ := List.append_inj' hq rfl
            exact hl g body (by simp [← List.singleton_inj.mp hm])
        · simp only [hb, decide_false, Bool.not_false, Bool.and_true]
          exact last nofun (by simp [hb])
    | intakeReject | ready | need => exact last nofun (by simp)

/-! ### The tick at one bank -/

/-- The debt stands at its limit, and the tick is missed (R114). -/
def BankState.tickMissed (x : BankState) : Bool := decide (12 ≤ x.debt)

/-- The tick names the bank: its debt comes to the urgent level and NEED was not raised (R113). -/
def BankState.tickNamed (x : BankState) (U : Nat) : Bool := decide (x.debt < 12) && !x.need && decide (U ≤ x.debt + 1)

/-- The tick revokes the open row: a forced claim placed on an OPEN bank with no order in progress (R115, R40). -/
def BankState.tickRevoked (x : BankState) : Bool := decide (x.debt = 11) && !x.forced && x.isOpen && x.inProgress.isNone

/-- A bank after a tick (R112 to R115, R40, R43). -/
def BankState.ticked (x : BankState) (U : Nat) : BankState :=
  if x.tickMissed then x
  else if x.tickRevoked then { x with
    debt := 12, need := x.need || decide (U ≤ 12), forced := false, revoked := true, shadow := .claimed .forced, claimNew := false
    slot := some x.pointer }
  else { x with
    debt := x.debt + 1, need := x.need || decide (U ≤ x.debt + 1)
    forced := x.forced || decide (x.debt = 11 ∧ x.shadow ≠ .claimed .forced) }

/-- What a tick does at a bank's stack port. -/
def BankState.tickOps (x : BankState) (b : Bank) : List StackOp :=
  match x.shadow with
  | .opened _ p => if x.tickRevoked then [.precharge b p] else []
  | .closed | .claimed _ => []

/-- The messages that a tick at a bank hands (R113, R43, R62, R63, R65). -/
def State.tickMsgs (s : State) (b : Bank) : List OutMsg :=
  if s.link = .up then
    (if (s.bank b).tickRevoked && !lostMerges b s.outbound then [.lost b] else [])
      ++ (if (s.bank b).tickNamed s.settings.urgentLevel && decide (OutMsg.need b ∉ s.outbound) then [.need b] else [])
  else []

/-- The REFRESH_MISSED entry after a tick at a bank. -/
def NoticeEntry.missed (e : NoticeEntry) (b : Bank) (x : BankState) : NoticeEntry := e.raised (some b) none (.shadow x.shadow)

/-- The ROW_REVOKED entry after a tick at a bank. -/
def NoticeEntry.revokedAt (e : NoticeEntry) (b : Bank) (x : BankState) : NoticeEntry :=
  match x.shadow with
  | .opened r p => e.raised (some b) (some r) (.phys p)
  | .closed | .claimed _ => e

/-- The notice table after a tick at a bank. -/
def State.tickNotice (s : State) (b : Bank) (n : NoticeKind) : NoticeEntry :=
  if (s.bank b).tickMissed = true ∧ n = .refreshMissed then (s.notice n).missed b (s.bank b)
  else if (s.bank b).tickRevoked = true ∧ n = .rowRevoked then (s.notice n).revokedAt b (s.bank b)
  else s.notice n

/-- What a tick at one bank leaves: t is s but for the bank, the messages, the stack port and the notices. -/
structure Ticked (s : State) (b : Bank) (t : State) : Prop where
  frame : t = { s with
    banks := t.banks, outbound := s.outbound ++ s.tickMsgs b, stackPort := s.stackPort ++ (s.bank b).tickOps b, notices := t.notices
    alert := t.alert }
  bank : ∀ c, t.bank c = if c = b then (s.bank b).ticked s.settings.urgentLevel else s.bank c
  notice : ∀ n, t.notice n = s.tickNotice b n

section
variable {s : State} {b : Bank}

theorem BankState.tickRevoked_iff {x : BankState} : x.tickRevoked = true ↔
    x.debt = 11 ∧ x.forced = false ∧ x.isOpen = true ∧ x.inProgress = none := by
  simp [BankState.tickRevoked, and_assoc]

theorem BankState.tickNamed_iff {x : BankState} {U : Nat} : x.tickNamed U = true ↔ x.debt < 12 ∧ x.need = false ∧ U ≤ x.debt + 1 := by
  simp [BankState.tickNamed, and_assoc]

theorem BankState.tickMissed_eq_false {x : BankState} (h : x.debt < 12) : x.tickMissed = false := decide_eq_false (Nat.not_le.mpr h)

theorem State.notice_raise (k n : NoticeKind) (c : Option Bank) (r : Option LRow) (d : Detail) (s : State) :
    (s.raise k c r d).notice n = if n = k then (s.notice k).raised c r d else s.notice n := State.notice_setNotice ..

theorem State.tickBank_missed (h : (s.bank b).tickMissed = true) : Ticked s b (s.tickBank b) := by
  have full : ¬ (s.bank b).debt < Config.debtLimit := Nat.not_lt.mpr (of_decide_eq_true h)
  have debt : 12 ≤ (s.bank b).debt := of_decide_eq_true h
  have raised : s.tickBank b = s.raise .refreshMissed (some b) none (.shadow (s.bank b).shadow) := by
    unfold State.tickBank
    exact if_neg full
  have named : (s.bank b).tickNamed s.settings.urgentLevel = false :=
    Bool.eq_false_iff.mpr fun hn => by have := (BankState.tickNamed_iff.mp hn).1; omega
  have revoked : (s.bank b).tickRevoked = false :=
    Bool.eq_false_iff.mpr fun hr => by have := (BankState.tickRevoked_iff.mp hr).1; omega
  have msgs : s.tickMsgs b = [] := by simp [State.tickMsgs, named, revoked]
  have ops : (s.bank b).tickOps b = [] := by
    unfold BankState.tickOps
    split <;> simp [revoked]
  rw [raised]
  refine ⟨?_, fun c => ?_, fun n => ?_⟩
  · rw [msgs, ops, List.append_nil, List.append_nil]
    rfl
  · rw [BankState.ticked, if_pos h]
    split
    · next hc => rw [hc]; rfl
    · rfl
  · rw [State.notice_raise, State.tickNotice, revoked]
    by_cases hn : n = .refreshMissed
    · subst hn
      rw [if_pos rfl, if_pos ⟨h, rfl⟩]
      rfl
    · rw [if_neg hn, if_neg fun hc => hn hc.2, if_neg fun hc => Bool.false_ne_true hc.1]

theorem State.handNeed_eq (b : Bank) (u : State) : u.handNeed b = { u with
    outbound := u.outbound ++ if u.link = .up then (if OutMsg.need b ∉ u.outbound then [.need b] else []) else [] } := by
  unfold State.handNeed
  by_cases hup : u.link = .up
  · by_cases hm : OutMsg.need b ∉ u.outbound
    · rw [if_pos ⟨hup, hm⟩, if_pos hup, if_pos hm]
    · rw [if_neg fun h => hm h.2, if_pos hup, if_neg hm, List.append_nil]
  · rw [if_neg fun h => hup h.1, if_neg hup, List.append_nil]

theorem State.handLost_eq (b : Bank) (u : State) : u.handLost b = { u with
    outbound := u.outbound ++ if u.link = .up then (if lostMerges b u.outbound = false then [.lost b] else []) else [] } := by
  unfold State.handLost
  by_cases hup : u.link = .up
  · by_cases hm : lostMerges b u.outbound = false
    · rw [if_pos ⟨hup, hm⟩, if_pos hup, if_pos hm]
    · rw [if_neg fun h => hm h.2, if_pos hup, if_neg hm, List.append_nil]
  · rw [if_neg fun h => hup h.1, if_neg hup, List.append_nil]

/-- NEED handed behind the messages l, none of them a NEED. -/
theorem State.tick_needs {u : State} {l : List OutMsg} (named : Bool) (hl : u.outbound = s.outbound ++ l) (hn : ∀ c, OutMsg.need c ∉ l)
    (hlink : u.link = s.link) : (if named then u.handNeed b else u) = { u with
      outbound := s.outbound ++ l ++ if s.link = .up then (if named && decide (OutMsg.need b ∉ s.outbound) then [.need b] else []) else [] } := by
  cases named with
  | false =>
    have same : u.outbound = s.outbound ++ l ++ if s.link = .up then (if false && decide (OutMsg.need b ∉ s.outbound) then [.need b] else [])
        else [] := by simp [hl]
    rw [← same]
    rfl
  | true =>
    have unsent : OutMsg.need b ∉ s.outbound ++ l ↔ OutMsg.need b ∉ s.outbound := by
      rw [List.mem_append]
      exact ⟨fun h hm => h (.inl hm), fun h hm => hm.elim h (hn b)⟩
    have out : (u.outbound ++ if u.link = .up then (if OutMsg.need b ∉ u.outbound then [OutMsg.need b] else []) else []) = s.outbound ++ l
        ++ if s.link = .up then (if true && decide (OutMsg.need b ∉ s.outbound) then [OutMsg.need b] else []) else [] := by
      simp only [unsent, hlink, hl, Bool.true_and, decide_eq_true_eq]
    rw [if_pos rfl, State.handNeed_eq, out]

theorem State.tickBank_raised (h : (s.bank b).tickMissed = false) : s.tickBank b =
    let x := s.bank b
    let named := x.tickNamed s.settings.urgentLevel
    let s1 := s.setBank b { x with
      debt := x.debt + 1, forced := x.forced || x.forces (x.debt + 1), need := x.need || decide (s.settings.urgentLevel ≤ x.debt + 1) }
    let s2 := if x.forces (x.debt + 1) then s1.revokeIfForced b else s1
    if named then s2.handNeed b else s2 := by
  have below : (s.bank b).debt < 12 := Nat.lt_of_not_le (of_decide_eq_false h)
  have need : ((s.bank b).need || (decide (s.settings.urgentLevel ≤ (s.bank b).debt + 1) && !(s.bank b).need)) =
      ((s.bank b).need || decide (s.settings.urgentLevel ≤ (s.bank b).debt + 1)) := by
    cases (s.bank b).need <;> simp
  have named : (decide (s.settings.urgentLevel ≤ (s.bank b).debt + 1) && !(s.bank b).need) =
      (s.bank b).tickNamed s.settings.urgentLevel := by
    rw [BankState.tickNamed, decide_eq_true below, Bool.true_and, Bool.and_comm]
  unfold State.tickBank
  dsimp only
  rw [if_pos (show (s.bank b).debt < Config.debtLimit from below), need, named]

theorem State.tickBank_quiet (h : (s.bank b).tickMissed = false) (hr : (s.bank b).tickRevoked = false) : Ticked s b (s.tickBank b) := by
  generalize hx : ({ s.bank b with
    debt := (s.bank b).debt + 1, forced := (s.bank b).forced || (s.bank b).forces ((s.bank b).debt + 1)
    need := (s.bank b).need || decide (s.settings.urgentLevel ≤ (s.bank b).debt + 1) } : BankState) = x
  have settled : (if (s.bank b).forces ((s.bank b).debt + 1) then (s.setBank b x).revokeIfForced b else s.setBank b x) = s.setBank b x := by
    split
    · next hf =>
      unfold State.revokeIfForced
      rw [State.bank_setBank_self]
      split
      · next r p hs hforced hip =>
        exfalso
        rw [← hx] at hs hip
        simp only [BankState.forces, Config.debtLimit, Bool.and_eq_true, decide_eq_true_eq, Bool.not_eq_true'] at hf
        obtain ⟨⟨hd, hnf⟩, -⟩ := hf
        have := BankState.tickRevoked_iff.mpr ⟨Nat.succ.inj (of_decide_eq_true hd), hnf, BankState.isOpen_of_opened hs, hip⟩
        rw [hr] at this
        cases this
      · rfl
    · rfl
  have ticked : x = (s.bank b).ticked s.settings.urgentLevel := by
    have forces : (s.bank b).forces ((s.bank b).debt + 1) =
        (!(s.bank b).forced && decide ((s.bank b).debt = 11 ∧ (s.bank b).shadow ≠ .claimed .forced)) := by
      simp only [BankState.forces, Config.debtLimit]
      by_cases hd : (s.bank b).debt = 11 <;> simp [hd]
    have forced : ((s.bank b).forced || (s.bank b).forces ((s.bank b).debt + 1)) =
        ((s.bank b).forced || decide ((s.bank b).debt = 11 ∧ (s.bank b).shadow ≠ .claimed .forced)) := by
      rw [forces]
      cases (s.bank b).forced <;> simp
    rw [BankState.ticked, h, hr, ← hx, forced]
    rfl
  have msgs : s.tickMsgs b = if s.link = .up then
      (if (s.bank b).tickNamed s.settings.urgentLevel && decide (OutMsg.need b ∉ s.outbound) then [.need b] else []) else [] := by
    simp [State.tickMsgs, hr]
  have ops : (s.bank b).tickOps b = [] := by
    unfold BankState.tickOps
    split <;> simp [hr]
  have whole : s.tickBank b = { s.setBank b x with outbound := s.outbound ++ s.tickMsgs b } := by
    rw [State.tickBank_raised h]
    dsimp only
    rw [hx, settled, State.tick_needs (u := s.setBank b x) (l := []) _ (by simp) (by simp) rfl, msgs]
    simp only [List.append_nil]
    rfl
  rw [whole, ticked]
  refine ⟨?_, fun c => State.bank_setBank s b c _, fun n => ?_⟩
  · rw [ops, List.append_nil]
    rfl
  · rw [State.tickNotice, h, hr]
    simp only [Bool.false_eq_true, false_and, if_false]
    rfl

theorem State.tickBank_revoked (h : (s.bank b).tickMissed = false) (hr : (s.bank b).tickRevoked = true) : Ticked s b (s.tickBank b) := by
  obtain ⟨hd, hnf, hopen, hip⟩ := BankState.tickRevoked_iff.mp hr
  obtain ⟨r, p, hs⟩ : ∃ r p, (s.bank b).shadow = .opened r p := by
    unfold BankState.isOpen at hopen
    split at hopen
    · next r p hs => exact ⟨r, p, hs⟩
    · cases hopen
    · cases hopen
  have forces : (s.bank b).forces ((s.bank b).debt + 1) = true := by simp [BankState.forces, Config.debtLimit, hd, hnf, hs]
  have revoked (y : BankState) (hy : y = { s.bank b with
      debt := (s.bank b).debt + 1, forced := true, need := (s.bank b).need || decide (s.settings.urgentLevel ≤ (s.bank b).debt + 1) }) :
      (s.setBank b y).revokeIfForced b = ({ (s.port [.precharge b p]).setBank b ((s.bank b).ticked s.settings.urgentLevel) with
        outbound := s.outbound ++ if s.link = .up then (if lostMerges b s.outbound = false then [.lost b] else []) else [] } : State).raise
          .rowRevoked (some b) (some r) (.phys p) := by
    have granted : (s.setBank b y).revokeIfForced b = (s.setBank b y).revoke b r p :=
      State.revokeIfForced_granted (by rw [State.bank_setBank_self, hy]; exact hs) (by rw [State.bank_setBank_self, hy])
        (by rw [State.bank_setBank_self, hy]; exact hip)
    have bank : ({ y with revoked := true, forced := false } : BankState).refreshJob .forced = (s.bank b).ticked s.settings.urgentLevel := by
      rw [BankState.ticked, h, hr, hy, hd]
      rfl
    rw [granted, State.revoke, State.bank_setBank_self, State.port_setBank, State.setBank_setBank, bank, State.handLost_eq]
    rfl
  have msgs : s.tickMsgs b = (if s.link = .up then (if lostMerges b s.outbound = false then [.lost b] else []) else [])
      ++ if s.link = .up then
        (if (s.bank b).tickNamed s.settings.urgentLevel && decide (OutMsg.need b ∉ s.outbound) then [.need b] else []) else [] := by
    unfold State.tickMsgs
    rw [hr]
    split <;> simp
  have ops : (s.bank b).tickOps b = [.precharge b p] := by
    unfold BankState.tickOps
    rw [hs, hr]
    rfl
  have whole : s.tickBank b = { (({ (s.port [.precharge b p]).setBank b ((s.bank b).ticked s.settings.urgentLevel) with
        outbound := s.outbound ++ if s.link = .up then (if lostMerges b s.outbound = false then [.lost b] else []) else [] } : State).raise
          .rowRevoked (some b) (some r) (.phys p)) with outbound := s.outbound ++ s.tickMsgs b } := by
    rw [State.tickBank_raised h]
    dsimp only
    rw [if_pos forces, revoked _ (by rw [forces, Bool.or_true]), msgs, ← List.append_assoc]
    refine State.tick_needs _ rfl (fun c hc => ?_) rfl
    split at hc
    · split at hc
      · cases List.mem_singleton.mp hc
      · cases hc
    · cases hc
  rw [whole]
  refine ⟨?_, fun c => State.bank_setBank s b c _, fun n => ?_⟩
  · rw [ops]
    rfl
  · rw [State.tickNotice, h]
    simp only [Bool.false_eq_true, false_and, if_false]
    refine (State.notice_raise _ n _ _ _ _).trans ?_
    by_cases hn : n = .rowRevoked
    · subst hn
      refine (if_pos rfl).trans ?_
      rw [if_pos (show _ ∧ NoticeKind.rowRevoked = .rowRevoked from ⟨hr, rfl⟩), NoticeEntry.revokedAt, hs]
      rfl
    · exact (if_neg hn).trans (if_neg fun hc => hn hc.2).symm

/-- A tick at one bank. -/
theorem State.tickBank_ticked (b : Bank) (s : State) : Ticked s b (s.tickBank b) := by
  cases h : (s.bank b).tickMissed with
  | true => exact State.tickBank_missed h
  | false =>
    cases hr : (s.bank b).tickRevoked with
    | true => exact State.tickBank_revoked h hr
    | false => exact State.tickBank_quiet h hr

/-! ### The tick at a list of banks -/

theorem State.ticked_msgs {t : State} (h : Ticked s b t) {c : Bank} (hc : c ≠ b) : t.tickMsgs c = s.tickMsgs c := by
  have only (m : OutMsg) (hm : m ∈ s.tickMsgs b) : m = .lost b ∨ m = .need b := by
    unfold State.tickMsgs at hm
    split at hm
    · rcases List.mem_append.mp hm with hm | hm <;> split at hm <;> simp_all
    · cases hm
  have lost : ∀ l : List OutMsg, (∀ m ∈ l, m = .lost b ∨ m = .need b) → lostMerges c (s.outbound ++ l) = lostMerges c s.outbound := by
    intro l hl
    induction l using List.reverseRecOn with
    | nil => rw [List.append_nil]
    | append_singleton l m ih =>
      rw [← List.append_assoc, lostMerges_concat, ih fun m hm => hl m (List.mem_append_left _ hm)]
      rcases hl m (by simp) with rfl | rfl
      · simp [Ne.symm hc]
      · rfl
  have out : t.outbound = s.outbound ++ s.tickMsgs b := by rw [h.frame]
  have need : OutMsg.need c ∉ t.outbound ↔ OutMsg.need c ∉ s.outbound := by
    rw [out, List.mem_append]
    refine not_congr ⟨fun hm => hm.elim id fun hm => ?_, .inl⟩
    rcases only _ hm with hm | hm
    · cases hm
    · cases hm
      exact absurd rfl hc
  have link : t.link = s.link := by rw [h.frame]
  have settings : t.settings = s.settings := by rw [h.frame]
  have bank : t.bank c = s.bank c := by rw [h.bank, if_neg hc]
  simp only [State.tickMsgs, link, settings, bank, need]
  rw [out, lost _ only]

/-- The tick at the banks of a list, in its order. -/
theorem State.ticks_eq (l : List Bank) (hd : l.Nodup) (s : State) :
    l.foldl (fun s b => s.tickBank b) s = { s with
      banks := (l.foldl (fun s b => s.tickBank b) s).banks, outbound := s.outbound ++ l.flatMap s.tickMsgs
      stackPort := s.stackPort ++ l.flatMap fun b => (s.bank b).tickOps b
      notices := (l.foldl (fun s b => s.tickBank b) s).notices, alert := (l.foldl (fun s b => s.tickBank b) s).alert }
    ∧ (∀ c, (l.foldl (fun s b => s.tickBank b) s).bank c = if c ∈ l then (s.bank c).ticked s.settings.urgentLevel else s.bank c)
    ∧ (l.foldl (fun s b => s.tickBank b) s).notice .refreshMissed =
        (l.filter fun b => (s.bank b).tickMissed).foldl (fun e b => e.missed b (s.bank b)) (s.notice .refreshMissed)
    ∧ (l.foldl (fun s b => s.tickBank b) s).notice .rowRevoked =
        (l.filter fun b => (s.bank b).tickRevoked).foldl (fun e b => e.revokedAt b (s.bank b)) (s.notice .rowRevoked)
    ∧ ∀ n, n ≠ .refreshMissed → n ≠ .rowRevoked → (l.foldl (fun s b => s.tickBank b) s).notice n = s.notice n := by
  induction l generalizing s with
  | nil => exact ⟨by simp, fun c => by simp, rfl, rfl, fun n _ _ => rfl⟩
  | cons b l ih =>
    obtain ⟨hb, hd⟩ := List.nodup_cons.mp hd
    have ticked := s.tickBank_ticked b
    rw [List.foldl_cons]
    generalize s.tickBank b = s' at ticked
    obtain ⟨shape, banks, missed, revoked, others⟩ := ih hd s'
    generalize l.foldl (fun s b => s.tickBank b) s' = t at shape banks missed revoked others
    have ne {c : Bank} (hc : c ∈ l) : c ≠ b := fun h => hb (h ▸ hc)
    have bank {c : Bank} (hc : c ∈ l) : s'.bank c = s.bank c := by rw [ticked.bank, if_neg (ne hc)]
    have settings : s'.settings = s.settings := by rw [ticked.frame]
    have msgs : l.flatMap s'.tickMsgs = l.flatMap s.tickMsgs := List.flatMap_congr fun c hc => State.ticked_msgs ticked (ne hc)
    have ops : (l.flatMap fun c => (s'.bank c).tickOps c) = l.flatMap fun c => (s.bank c).tickOps c :=
      List.flatMap_congr fun c hc => by rw [bank hc]
    have filtered (p : BankState → Bool) : (l.filter fun c => p (s'.bank c)) = l.filter fun c => p (s.bank c) :=
      List.filter_congr fun c hc => by rw [bank hc]
    have entries (p : BankState → Bool) (f : NoticeEntry → Bank → BankState → NoticeEntry) (e : NoticeEntry) :
        (l.filter fun c => p (s'.bank c)).foldl (fun e c => f e c (s'.bank c)) e =
          (l.filter fun c => p (s.bank c)).foldl (fun e c => f e c (s.bank c)) e := by
      rw [filtered]
      exact List.foldl_ext _ _ _ fun e c hc => by rw [bank (List.mem_of_mem_filter hc)]
    refine ⟨?_, fun c => ?_, ?_, ?_, fun n hm hr => ?_⟩
    · refine shape.trans ?_
      rw [msgs, ops, List.flatMap_cons, List.flatMap_cons, ← List.append_assoc, ← List.append_assoc]
      generalize t.banks = banks'
      generalize t.notices = notices'
      generalize t.alert = alert'
      rw [ticked.frame]
    · rw [banks, settings]
      by_cases hc : c = b
      · subst hc
        rw [if_neg hb, if_pos (List.mem_cons_self ..), ticked.bank, if_pos rfl]
      · rw [ticked.bank, if_neg hc]
        simp [hc]
    · rw [missed, entries BankState.tickMissed NoticeEntry.missed, ticked.notice, State.tickNotice, List.filter_cons]
      cases (s.bank b).tickMissed <;> simp
    · rw [revoked, entries BankState.tickRevoked NoticeEntry.revokedAt, ticked.notice, State.tickNotice, List.filter_cons]
      cases (s.bank b).tickRevoked <;> simp
    · rw [others n hm hr, ticked.notice, State.tickNotice, if_neg fun h => hm h.2, if_neg fun h => hr h.2]

/-! ### What a tick raises -/

/-- Raises of one kind, one behind the other, count up to 255 and keep the last one's subject (R170). -/
theorem foldl_raised {α : Type} (f : NoticeEntry → α → NoticeEntry)
    (l : List α) (hf : ∀ a ∈ l, ∀ e, (f e a).count = min 255 (e.count + 1) ∧ (f e a).masked = e.masked) (e : NoticeEntry) :
    min 255 ((l.foldl f e).count + 1) = min 255 (e.count + l.length + 1) ∧ (l.foldl f e).masked = e.masked := by
  induction l generalizing e with
  | nil => exact ⟨rfl, rfl⟩
  | cons a l ih =>
    obtain ⟨count, masked⟩ := ih (fun a ha => hf a (List.mem_cons_of_mem _ ha)) (f e a)
    obtain ⟨hc, hm⟩ := hf a (List.mem_cons_self ..) e
    rw [List.foldl_cons, count, masked, hc, hm, List.length_cons]
    exact ⟨by omega, rfl⟩

/-- The order in which a tick reaches the banks names each once (R112). -/
theorem tickOrder_perm (first : List Bank) : (tickOrder first).Perm allBanks := by
  have nodup : (tickOrder first).Nodup := by
    refine List.nodup_append.mpr ⟨List.nodup_dedup first, allBanks_nodup.filter _, fun a ha c hc h => ?_⟩
    subst h
    exact (of_decide_eq_true (List.mem_filter.mp hc).2) (List.mem_dedup.mp ha)
  refine (List.perm_ext_iff_of_nodup nodup allBanks_nodup).mpr fun b => iff_of_true ?_ (mem_allBanks b)
  by_cases hb : b ∈ first
  · exact List.mem_append_left _ (List.mem_dedup.mpr hb)
  · exact List.mem_append_right _ (List.mem_filter.mpr ⟨mem_allBanks b, decide_eq_true hb⟩)

/-- The banks of a list with a property, the last of them known. -/
theorem filter_last {p : Bank → Bool} {l l' : List Bank} {b : Bank} (hb : p b = true) (hl : ∀ c ∈ l', p c = false) :
    (l ++ b :: l').filter p = l.filter p ++ [b] := by
  have behind : l'.filter p = [] := List.filter_eq_nil_iff.mpr fun c hc => by rw [hl c hc]; exact Bool.false_ne_true
  rw [List.filter_append, List.filter_cons_of_pos hb, behind]

theorem mem_tickMsgs {m : OutMsg} : m ∈ s.tickMsgs b ↔ s.link = .up
    ∧ ((m = .lost b ∧ (s.bank b).tickRevoked = true ∧ lostMerges b s.outbound = false)
      ∨ (m = .need b ∧ (s.bank b).tickNamed s.settings.urgentLevel = true ∧ OutMsg.need b ∉ s.outbound)) := by
  unfold State.tickMsgs
  by_cases hl : s.link = .up
  · rw [if_pos hl, List.mem_append]
    simp only [hl, true_and]
    refine or_congr ?_ ?_
    · split <;> simp_all
    · split <;> simp_all
  · rw [if_neg hl]
    simp [hl]

theorem tickMsgs_nodup (s : State) (b : Bank) : (s.tickMsgs b).Nodup := by
  unfold State.tickMsgs
  split
  · refine List.nodup_append.mpr ⟨?_, ?_, fun a ha c hc h => ?_⟩
    · split <;> simp
    · split <;> simp
    · subst h
      split at ha <;> split at hc <;> simp_all
  · exact List.nodup_nil

/-- The entry of a kind that a tick raises at the banks of a list with a property, the last of them b. -/
theorem foldl_raised_last {p : Bank → Bool} {f : NoticeEntry → Bank → NoticeEntry} {order l l' : List Bank} {b : Bank}
    (hperm : order.Perm allBanks) (ho : order = l ++ b :: l') (hb : p b = true) (hl : ∀ c ∈ l', p c = false)
    (hf : ∀ a, p a = true → ∀ e, (f e a).count = min 255 (e.count + 1) ∧ (f e a).masked = e.masked) (e : NoticeEntry) :
    ∃ e', (order.filter p).foldl f e = f e' b ∧ min 255 (e'.count + 1) = min 255 (e.count + allBanks.countP p) ∧ e'.masked = e.masked := by
  obtain ⟨count, masked⟩ := foldl_raised f (l.filter p) (fun a ha => hf a (List.of_mem_filter ha)) e
  refine ⟨(l.filter p).foldl f e, ?_, ?_, masked⟩
  · rw [ho, filter_last hb hl, List.foldl_append]
    rfl
  · rw [count, ← hperm.countP_eq, List.countP_eq_length_filter, ho, filter_last hb hl, List.length_append, Nat.add_assoc]
    rfl

theorem BankState.tickRevoked_opened {x : BankState} (h : x.tickRevoked = true) : ∃ r p, x.shadow = .opened r p := by
  obtain ⟨-, -, hopen, -⟩ := BankState.tickRevoked_iff.mp h
  unfold BankState.isOpen at hopen
  split at hopen
  · next r p hs => exact ⟨r, p, hs⟩
  · cases hopen
  · cases hopen

/-- Settles O29: the tick at the banks one by one. -/
theorem tickRaisesEveryDebt : Obligations.TickRaisesEveryDebt := by
  intro first s ht order missed named revoked
  have perm := tickOrder_perm first
  have nodup : (tickOrder first).Nodup := perm.nodup_iff.mpr allBanks_nodup
  have mem (b : Bank) : b ∈ tickOrder first := perm.mem_iff.mpr (mem_allBanks b)
  obtain ⟨shape, banks, hmissed, hrevoked, others⟩ := State.ticks_eq (tickOrder first) nodup s
  have ticked : exec (.tick first) s = .next { (tickOrder first).foldl (fun s b => s.tickBank b) s with
      timer := some s.settings.tickInterval } := by
    obtain ⟨m, hm⟩ := Option.ne_none_iff_exists'.mp ht
    have settings : ((tickOrder first).foldl (fun s b => s.tickBank b) s).settings = s.settings := by rw [shape]
    simp only [exec, execTick, hm, State.tickAll]
  generalize (tickOrder first).foldl (fun s b => s.tickBank b) s = u at shape banks hmissed hrevoked others ticked
  have out : u.outbound = s.outbound ++ (tickOrder first).flatMap s.tickMsgs := by rw [shape]
  have port : u.stackPort = s.stackPort ++ (tickOrder first).flatMap fun b => (s.bank b).tickOps b := by rw [shape]
  have missedIff (b : Bank) : (s.bank b).tickMissed = true ↔ missed b := decide_eq_true_iff
  have revokedIff (b : Bank) : (s.bank b).tickRevoked = true ↔ revoked b := BankState.tickRevoked_iff
  have bank (b : Bank) : u.bank b = (s.bank b).ticked s.settings.urgentLevel := by rw [banks, if_pos (mem b)]
  refine ⟨_, ticked, ?_, fun b hb => ?_, fun b hb => ?_, fun l b l' ho hb hl => ?_, fun hn => ?_, fun l b l' r p ho hb hl hs => ?_, fun hn => ?_,
    others, ?_, (tickOrder first).flatMap s.tickMsgs, out, ?_, fun m hm => ?_, fun b => ?_, fun b => ?_⟩
  · refine (congrArg (fun v : State => { v with timer := some s.settings.tickInterval }) shape).trans ?_
    dsimp only
    rw [out, port]
  · exact (bank b).trans (if_pos ((missedIff b).mpr hb))
  · refine (bank b).trans ?_
    rw [BankState.ticked, BankState.tickMissed_eq_false hb]
    by_cases hr : revoked b
    · rw [if_neg Bool.false_ne_true, if_pos ((revokedIff b).mpr hr), if_pos hr]
    · rw [if_neg Bool.false_ne_true, if_neg fun h => hr ((revokedIff b).mp h), if_neg hr]
  · obtain ⟨e, he, count, masked⟩ := foldl_raised_last perm ho ((missedIff b).mpr hb)
      (fun c hc => Bool.eq_false_iff.mpr fun h => hl c hc ((missedIff c).mp h))
      (f := fun e b => e.missed b (s.bank b)) (fun a _ e => ⟨rfl, rfl⟩) (s.notice .refreshMissed)
    refine (hmissed.trans he).trans ?_
    rw [NoticeEntry.missed, NoticeEntry.raised, count, masked]
    rfl
  · refine hmissed.trans ?_
    rw [List.filter_eq_nil_iff.mpr fun c _ h => hn c ((missedIff c).mp h)]
    rfl
  · have counts (a : Bank) (ha : (s.bank a).tickRevoked = true) (e : NoticeEntry) :
        (e.revokedAt a (s.bank a)).count = min 255 (e.count + 1) ∧ (e.revokedAt a (s.bank a)).masked = e.masked := by
      obtain ⟨r, p, hs⟩ := BankState.tickRevoked_opened ha
      rw [NoticeEntry.revokedAt, hs]
      exact ⟨rfl, rfl⟩
    obtain ⟨e, he, count, masked⟩ := foldl_raised_last perm ho ((revokedIff b).mpr hb)
      (fun c hc => Bool.eq_false_iff.mpr fun h => hl c hc ((revokedIff c).mp h))
      (f := fun e b => e.revokedAt b (s.bank b)) (fun a ha e => counts a ha e) (s.notice .rowRevoked)
    have counted : (allBanks.countP fun c => decide (revoked c)) = allBanks.countP fun c => (s.bank c).tickRevoked :=
      List.countP_congr fun c _ => decide_eq_true_iff.trans (revokedIff c).symm
    refine (hrevoked.trans he).trans ?_
    simp only [NoticeEntry.revokedAt, hs]
    rw [NoticeEntry.raised, count, masked, counted]
  · refine hrevoked.trans ?_
    rw [List.filter_eq_nil_iff.mpr fun c _ h => hn c ((revokedIff c).mp h)]
    rfl
  · refine port.trans (congrArg _ (List.flatMap_congr fun b _ => ?_))
    cases hs : (s.bank b).shadow with
    | opened r p =>
      rw [BankState.tickOps, hs]
      by_cases hr : revoked b
      · exact (if_pos ((revokedIff b).mpr hr)).trans (if_pos hr).symm
      · exact (if_neg fun h => hr ((revokedIff b).mp h)).trans (if_neg hr).symm
    | closed => rw [BankState.tickOps, hs]
    | claimed k => rw [BankState.tickOps, hs]
  · refine List.nodup_flatMap.mpr ⟨fun b _ => tickMsgs_nodup s b, nodup.imp fun {a b} hab m ha hb => hab ?_⟩
    obtain ⟨-, ⟨rfl, -⟩ | ⟨rfl, -⟩⟩ := mem_tickMsgs.mp ha
    all_goals
      obtain ⟨-, ⟨h, -⟩ | ⟨h, -⟩⟩ := mem_tickMsgs.mp hb <;> cases h
      rfl
  · obtain ⟨b, -, hb⟩ := List.mem_flatMap.mp hm
    obtain ⟨-, ⟨rfl, -⟩ | ⟨rfl, -⟩⟩ := mem_tickMsgs.mp hb
    exacts [⟨b, .inr rfl⟩, ⟨b, .inl rfl⟩]
  · have at_ : OutMsg.need b ∈ (tickOrder first).flatMap s.tickMsgs ↔ OutMsg.need b ∈ s.tickMsgs b := by
      refine ⟨fun h => ?_, fun h => List.mem_flatMap.mpr ⟨b, mem b, h⟩⟩
      obtain ⟨c, -, hc⟩ := List.mem_flatMap.mp h
      obtain ⟨-, ⟨hm, -⟩ | ⟨hm, -⟩⟩ := mem_tickMsgs.mp hc <;> cases hm
      exact hc
    rw [at_, mem_tickMsgs, BankState.tickNamed_iff]
    simp [named]
  · have at_ : OutMsg.lost b ∈ (tickOrder first).flatMap s.tickMsgs ↔ OutMsg.lost b ∈ s.tickMsgs b := by
      refine ⟨fun h => ?_, fun h => List.mem_flatMap.mpr ⟨b, mem b, h⟩⟩
      obtain ⟨c, -, hc⟩ := List.mem_flatMap.mp h
      obtain ⟨-, ⟨hm, -⟩ | ⟨hm, -⟩⟩ := mem_tickMsgs.mp hc <;> cases hm
      exact hc
    rw [at_, mem_tickMsgs, revokedIff, ← lostMerges_iff]
    simp
end

end Sys2Proof.Machine
end

section
/-! The chunk job: what it copies, and how the engine goes on (O25 to O27). -/
namespace Sys2Proof.Machine
open Sys2Proof

/-! ### Bursts copied -/

/-- The burst written for a checked one (R77): its words with check bytes generated anew, or the poison pattern in every word. -/
def BurstCheck.written : BurstCheck → Burst
  | .words d _ => Vector.ofFn fun j => { data := d.get j, check := checkByte (d.get j) }
  | .uncorrectable => Vector.replicate 8 poisonWord

/-- What the buffer held before plays no part in what is written. -/
theorem BufBurst.taken_out (u : BufBurst) (c : BurstCheck) : (u.taken c).out = c.written := by
  cases c <;> rfl

section
variable {s t : State} {a a' : Active} {k : Chunk}

theorem State.bufferOf_out (s : State) (a : Active) (k : Chunk) (i : Fin 8) :
    ((s.bufferOf a k).get i).out = (s.checkedBurst a k i).written := by
  rw [State.bufferOf, vget_eq, Vector.getElem_ofFn]
  exact BufBurst.taken_out ..

theorem State.chunkWrites_eq (s : State) (a : Active) (k : Chunk) : s.chunkWrites a k = (chunkCols k).map fun c =>
    (c, (checkBurst (s.readBurst a.bank a.source c)).written) := by
  unfold State.chunkWrites chunkCols
  rw [List.map_map]
  exact List.map_congr_left fun i _ => by rw [State.bufferOf_out]; rfl

theorem chunkCols_val (k : Chunk) : (chunkCols k).map Fin.val = (List.range 8).map fun i => 8 * k.val + i := by
  unfold chunkCols
  rw [List.map_map]
  rfl

theorem chunkCols_nodup (k : Chunk) : (chunkCols k).Nodup := by
  refine List.Nodup.of_map Fin.val ?_
  rw [chunkCols_val]
  exact List.nodup_range.map fun i j h => by simpa using h

theorem mem_chunkCols {c : Col} : c ∈ chunkCols k ↔ chunkOf c = k := by
  unfold chunkCols chunkOf
  simp only [List.mem_map, List.mem_finRange, true_and, Fin.ext_iff]
  exact ⟨fun ⟨i, hi⟩ => by omega, fun h => ⟨⟨c.val % 8, by omega⟩, by simp only; omega⟩⟩

/-- The counts of a chunk, burst by burst (R77). -/
theorem State.chunkCounts_eq (s : State) (a : Active) (k : Chunk) : s.chunkCounts a k =
    ((chunkCols k).countP fun c => match checkBurst (s.readBurst a.bank a.source c) with
        | .words _ corrected => corrected
        | .uncorrectable => false,
      (chunkCols k).countP fun c => decide (checkBurst (s.readBurst a.bank a.source c) = .uncorrectable)) := by
  unfold State.chunkCounts chunkCols
  rw [List.countP_map, List.countP_map]
  refine Prod.ext rfl (List.countP_congr fun i _ => ?_)
  show _ ↔ decide (s.checkedBurst a k i = .uncorrectable) = true
  cases s.checkedBurst a k i <;> simp

/-! ### The tracker -/

/-- What an activation leaves of a bank and of the TARGET_OVERFLOW entry. -/
def State.tracking (s : State) (b : Bank) : BankState × NoticeEntry := (s.bank b, s.notice .targetOverflow)

theorem State.track_tracking (b : Bank) (p : PRow) (s : State) :
    (s.track b p).tracking b = afterActivation s.settings.threshold b p (s.tracking b) := by
  unfold State.tracking afterActivation
  refine Prod.ext (s.track_bank b p) ?_
  unfold State.track
  dsimp only
  split
  · rw [State.notice_raise, if_pos rfl]
    rfl
  · rfl

theorem State.track_others (b : Bank) (p : PRow) (s : State) : (∀ c, c ≠ b → (s.track b p).bank c = s.bank c)
    ∧ ∀ n, n ≠ .targetOverflow → (s.track b p).notice n = s.notice n := by
  unfold State.track
  dsimp only
  split
  · exact ⟨fun c hc => State.bank_setBank_of_ne _ _ hc, fun n hn => by rw [State.notice_raise, if_neg hn]; rfl⟩
  · exact ⟨fun c hc => State.bank_setBank_of_ne _ _ hc, fun n hn => rfl⟩

/-- The tracker's part of a bank after an activation does not depend on its records. -/
theorem afterActivation_records (T : Nat) (b : Bank) (p : PRow) (y : BankState × NoticeEntry) (r : Vector (Option Rec) 8) :
    afterActivation T b p ({ y.1 with records := r }, y.2) =
      ({ (afterActivation T b p y).1 with records := r }, (afterActivation T b p y).2) := by
  have counted : ({ y.1 with records := r } : BankState).counted T p = { y.1.counted T p with records := r } := by
    unfold BankState.counted
    dsimp only
    split
    · split <;> rfl
    · rfl
  unfold afterActivation
  rw [counted]

theorem afterActivation_frame (T : Nat) (b : Bank) (p : PRow) (y : BankState × NoticeEntry) :
    (afterActivation T b p y).1 = { y.1 with tracker := (afterActivation T b p y).1.tracker, targets := (afterActivation T b p y).1.targets } := by
  unfold afterActivation
  dsimp only
  rw [BankState.counted_frame]

/-! ### A chunk copied -/

/-- The activations of a chunk job: the source row, then the destination row (R75, R92). -/
def chunkTracked (T : Nat) (a : Active) (y : BankState × NoticeEntry) : BankState × NoticeEntry :=
  afterActivation T a.bank a.dest (afterActivation T a.bank a.source y)

/-- What a chunk job leaves, but for the buffer and the active job (R75, R76, R77, R20, R92). -/
structure ChunkCopied (a : Active) (k : Chunk) (s t : State) : Prop where
  port : t.stackPort = s.stackPort ++ a.chunkOps k
  wrote : s.stackOk → ∀ c, chunkOf c = k → t.readBurst a.bank a.dest c = (checkBurst (s.readBurst a.bank a.source c)).written
  kept : ∀ b p c, ¬ (b = a.bank ∧ p = a.dest ∧ chunkOf c = k) → t.readBurst b p c = s.readBurst b p c
  stackOk : s.stackOk → t.stackOk
  tracked : t.tracking a.bank = ({ (chunkTracked s.settings.threshold a (s.tracking a.bank)).1 with
    records := ((s.bank a.bank).poisoned a.row (s.chunkCounts a k).2).records }, (chunkTracked s.settings.threshold a (s.tracking a.bank)).2)
  others : ∀ b, b ≠ a.bank → t.bank b = s.bank b
  notice : ∀ n, n ≠ .targetOverflow → t.notice n = s.notice n
  frame : t = { s with
    banks := t.banks, active := t.active, buffer := t.buffer, notices := t.notices, alert := t.alert, stack := t.stack
    stackPort := t.stackPort }
  active : t.active = some (a.counted (s.chunkCounts a k))

theorem BankState.poisoned_records (r : LRow) (n : Nat) (x y : BankState) (h : y.records = x.records) :
    y.poisoned r n = { y with records := (x.poisoned r n).records } := by
  have found : y.recOf r = x.recOf r := by simp only [BankState.recOf, BankState.slotOf, h]
  unfold BankState.poisoned
  rw [found]
  cases x.recOf r with
  | none => rw [← h]
  | some z => simp only [BankState.setRec, h]

theorem State.copyChunk_copied (ha : s.active = some a) (k : Chunk) : ChunkCopied a k s (s.copyChunk k) := by
  generalize hs1 : ((s.port (a.chunkOps k)).track a.bank a.source).track a.bank a.dest = s1
  generalize hs2 : writeBursts a.bank a.dest (s.chunkWrites a k) { s1 with buffer := s.bufferOf a k } = s2
  have copied : s.copyChunk k = { s2.setBank a.bank ((s2.bank a.bank).poisoned a.row (s.chunkCounts a k).2) with
      active := some (a.counted (s.chunkCounts a k)) } := by
    simp only [State.copyChunk, ha, hs1, hs2]
  have frame1 : s1 = { s with banks := s1.banks, notices := s1.notices, alert := s1.alert, stackPort := s.stackPort ++ a.chunkOps k } := by
    rw [← hs1, State.track_frame, State.track_frame a.bank a.source]
    rfl
  have frame2 : s2 = { s1 with buffer := s2.buffer, stack := s2.stack } := by
    rw [← hs2, writeBursts_frame]
  have bank2 (b : Bank) : s2.bank b = s1.bank b := by rw [frame2]; rfl
  have notice2 (n : NoticeKind) : s2.notice n = s1.notice n := by rw [frame2]; rfl
  have tracked1 : s1.tracking a.bank = chunkTracked s.settings.threshold a (s.tracking a.bank) := by
    have settings : ((s.port (a.chunkOps k)).track a.bank a.source).settings = s.settings := by rw [State.track_frame]; rfl
    rw [← hs1, State.track_tracking, State.track_tracking, settings]
    rfl
  have others1 : (∀ b, b ≠ a.bank → s1.bank b = s.bank b) ∧ ∀ n, n ≠ .targetOverflow → s1.notice n = s.notice n := by
    obtain ⟨banks, notices⟩ := (s.port (a.chunkOps k)).track_others a.bank a.source
    obtain ⟨banks', notices'⟩ := ((s.port (a.chunkOps k)).track a.bank a.source).track_others a.bank a.dest
    rw [← hs1]
    exact ⟨fun b hb => (banks' b hb).trans (banks b hb), fun n hn => (notices' n hn).trans (notices n hn)⟩
  have stack1 : ({ s1 with buffer := s.bufferOf a k } : State).stack = s.stack := by rw [frame1]
  have read1 (b : Bank) (p : PRow) (c : Col) : ({ s1 with buffer := s.bufferOf a k } : State).readBurst b p c = s.readBurst b p c := by
    rw [State.readBurst, stack1]
    rfl
  have read (b : Bank) (p : PRow) (c : Col) : (s.copyChunk k).readBurst b p c = s2.readBurst b p c := by rw [copied]; rfl
  refine ⟨?_, fun hwf c hc => ?_, fun b p c h => ?_, fun hwf => ?_, ?_, fun b hb => ?_, fun n hn => ?_, State.copyChunk_frame k s, by rw [copied]⟩
  · rw [copied, State.setBank_stackPort, frame2, frame1]
  · rw [read, ← hs2]
    refine writeBursts_read_of_mem _ (by rw [stack1]; exact hwf) ?_ ?_
    · rw [State.chunkWrites_eq, List.map_map]
      exact (chunkCols_nodup k).map fun _ _ h => h
    · rw [State.chunkWrites_eq]
      exact List.mem_map.mpr ⟨c, mem_chunkCols.mpr hc, rfl⟩
  · rw [read, ← hs2, writeBursts_read_of_ne, read1]
    intro w hw heq
    rw [State.chunkWrites_eq] at hw
    obtain ⟨c', hc', rfl⟩ := List.mem_map.mp hw
    simp only [Prod.mk.injEq] at heq
    obtain ⟨rfl, rfl, rfl⟩ := heq
    exact h ⟨rfl, rfl, mem_chunkCols.mp hc'⟩
  · rw [State.stackOk, copied, State.setBank_stack, ← hs2]
    exact writeBursts_wf _ (by rw [stack1]; exact hwf)
  · have bankEq : s1.bank a.bank = (chunkTracked s.settings.threshold a (s.tracking a.bank)).1 := congrArg Prod.fst tracked1
    have noticeEq : s1.notice .targetOverflow = (chunkTracked s.settings.threshold a (s.tracking a.bank)).2 := congrArg Prod.snd tracked1
    have records : (s1.bank a.bank).records = (s.bank a.bank).records := by
      rw [bankEq, chunkTracked, afterActivation_frame, afterActivation_frame _ _ a.source]
      rfl
    have bank : (s.copyChunk k).bank a.bank = (s1.bank a.bank).poisoned a.row (s.chunkCounts a k).2 := by
      rw [copied, ← bank2]
      exact State.bank_setBank_self ..
    have notice : (s.copyChunk k).notice .targetOverflow = s1.notice .targetOverflow := by
      rw [← notice2, copied]
      rfl
    refine Prod.ext ?_ (notice.trans noticeEq)
    exact bank.trans ((BankState.poisoned_records _ _ (s.bank a.bank) _ records).trans (by rw [bankEq]))
  · have bank : (s.copyChunk k).bank b = s2.bank b := by
      rw [copied]
      exact State.bank_setBank_of_ne _ _ hb
    rw [bank, bank2, others1.1 b hb]
  · have notice : (s.copyChunk k).notice n = s2.notice n := by rw [copied]; rfl
    rw [notice, notice2, others1.2 n hn]
end

end Sys2Proof.Machine
end

section
/-! The end of a chunk job: the chunk is copied and the engine goes on (O25, O26, O27). -/
namespace Sys2Proof.Machine
open Sys2Proof

section
variable {s t u : State} {a : Active} {k : Chunk} {abort : Bool} {b : Bank}

/-! ### What the engine changes when it goes on -/

/-- What the engine's next step may change after a job of bank b: claims of any bank; and when the job is aborted also the record and the
spare of b, with MIGRATION_ABORTED. -/
structure GoesOn (abort : Bool) (b : Bank) (s t : State) : Prop where
  bank : ∀ c, t.bank c = { s.bank c with
    migClaim := (t.bank c).migClaim, claimNew := (t.bank c).claimNew, passover := (t.bank c).passover
    records := (t.bank c).records, spares := (t.bank c).spares }
  table : ∀ c, (abort = true → c ≠ b) → (t.bank c).records = (s.bank c).records ∧ (t.bank c).spares = (s.bank c).spares
    ∧ (t.bank c).passover = (s.bank c).passover
  notice : ∀ n, n ≠ .migrationAborted → t.notice n = s.notice n

theorem GoesOn.trans (h : GoesOn abort b s t) (h' : GoesOn abort b t u) : GoesOn abort b s u where
  bank c := (h'.bank c).trans (by generalize u.bank c = z; rw [h.bank c])
  table c hc :=
    have ⟨records, spares, passover⟩ := h.table c hc
    have ⟨records', spares', passover'⟩ := h'.table c hc
    ⟨records'.trans records, spares'.trans spares, passover'.trans passover⟩
  notice n hn := (h'.notice n hn).trans (h.notice n hn)

/-- Beside the banks and the notices everything else may change. -/
theorem GoesOn.of_same (hb : ∀ c, t.bank c = s.bank c) (hn : ∀ n, t.notice n = s.notice n) : GoesOn abort b s t where
  bank c := by rw [hb c]
  table c _ := by rw [hb c]; exact ⟨rfl, rfl, rfl⟩
  notice n _ := hn n

theorem State.placeClaim_goesOn (s : State) (c : Bank) (kind : ClaimKind) : GoesOn abort b s (s.placeClaim c kind) := by
  refine ⟨fun d => ?_, fun d _ => ?_, fun n _ => rfl⟩ <;> rw [State.placeClaim, State.bank_setBank] <;> split
  · next h => rw [h]
  · rfl
  · next h => rw [h]; exact ⟨rfl, rfl, rfl⟩
  · exact ⟨rfl, rfl, rfl⟩

theorem State.enter_goesOn (s : State) (a : Active) (p : Phase) (kind : ClaimKind) : GoesOn abort b s (s.enter a p kind) :=
  .trans (t := { s with active := some { a with phase := p } }) (.of_same (fun _ => rfl) fun _ => rfl) (State.placeClaim_goesOn ..)

theorem State.takeJob_goesOn (s : State) : GoesOn abort b s s.takeJob := by
  unfold State.takeJob
  split
  · next c r q _ _ =>
    split
    · next a' _ =>
      exact .trans (t := { s with migQueue := q, active := some a' }) (.of_same (fun _ => rfl) fun _ => rfl) (State.placeClaim_goesOn ..)
    · exact .of_same (fun _ => rfl) fun _ => rfl
  · exact .of_same (fun _ => rfl) fun _ => rfl

/-- The aborted job's own bank. -/
theorem GoesOn.setBank {x : BankState} (hx : x = { s.bank b with
      migClaim := x.migClaim, claimNew := x.claimNew, passover := x.passover, records := x.records, spares := x.spares }) :
    GoesOn true b s (s.setBank b x) := by
  refine ⟨fun c => ?_, fun c hc => ?_, fun n _ => rfl⟩
  · rw [State.bank_setBank]
    split
    · next h => rw [h]; exact hx
    · rfl
  · rw [State.bank_setBank_of_ne _ _ (hc rfl)]
    exact ⟨rfl, rfl, rfl⟩

theorem GoesOn.raise (s : State) (c : Option Bank) (r : Option LRow) (d : Detail) :
    GoesOn true b s (s.raise .migrationAborted c r d) :=
  ⟨fun _ => rfl, fun _ _ => ⟨rfl, rfl, rfl⟩, fun n hn => by rw [State.notice_raise, if_neg hn]⟩

theorem State.abortRecord_goesOn (s : State) (a : Active) : GoesOn true a.bank s (s.abortRecord a) := by
  unfold State.abortRecord
  split
  · exact .of_same (fun _ => rfl) fun _ => rfl
  · split
    · refine GoesOn.trans (GoesOn.setBank ?_) (GoesOn.raise ..)
      rw [BankState.giveUp_frame]
    · exact .of_same (fun _ => rfl) fun _ => rfl

theorem BankState.withdrawn_frame (x : BankState) : x.withdrawn = { x with
    migClaim := x.withdrawn.migClaim, claimNew := x.withdrawn.claimNew, passover := x.withdrawn.passover } := by
  unfold BankState.withdrawn
  split <;> rfl

theorem State.abortNow_goesOn (s : State) (a : Active) : GoesOn true a.bank s (s.abortNow a) := by
  have withdraws : GoesOn true a.bank s (s.setBank a.bank (s.bank a.bank).withdrawn) := .setBank (by rw [BankState.withdrawn_frame])
  refine (withdraws.trans (State.abortRecord_goesOn _ a)).trans ?_
  exact GoesOn.trans (t := { (s.setBank a.bank (s.bank a.bank).withdrawn).abortRecord a with active := none })
    (.of_same (fun _ => rfl) fun _ => rfl) (State.takeJob_goesOn _)

theorem State.passDecision_goesOn (s : State) (a : Active) : GoesOn a.abort a.bank s (s.passDecision a) := by
  unfold State.passDecision
  split
  · next h => rw [h]; exact State.abortNow_goesOn ..
  · split
    · exact State.enter_goesOn ..
    · split <;> exact State.enter_goesOn ..

/-- How the engine goes on after a chunk job, in either of its phases (R78, R80, R85). -/
def State.afterChunk (a : Active) (s : State) : State :=
  if a.phase = .copying then s.afterMainChunk a else s.afterRecopyChunk a

theorem State.afterChunk_goesOn (s : State) (a : Active) : GoesOn a.abort a.bank s (s.afterChunk a) := by
  unfold State.afterChunk
  split
  · unfold State.afterMainChunk
    dsimp only
    split
    · next h => rw [h]; exact State.abortNow_goesOn s { a with cursor := a.cursor + 1 }
    · split
      · exact State.enter_goesOn ..
      · exact State.passDecision_goesOn s { a with cursor := a.cursor + 1 }
  · unfold State.afterRecopyChunk
    split
    · next h => rw [h]; exact State.abortNow_goesOn s a
    · split
      · exact State.enter_goesOn ..
      · exact State.passDecision_goesOn s { a with passesDone := a.passesDone + 1 }

theorem State.afterChunk_frame (a : Active) (s : State) : s.afterChunk a = { s with
    banks := (s.afterChunk a).banks, migQueue := (s.afterChunk a).migQueue, active := (s.afterChunk a).active
    notices := (s.afterChunk a).notices, alert := (s.afterChunk a).alert } := by
  unfold State.afterChunk
  split
  · rw [State.afterMainChunk_frame]
  · rw [State.afterRecopyChunk_frame]

/-! ### The end of a chunk job -/

theorem exec_chunkJobEnd (ha : s.active = some a) (hs : (s.bank a.bank).shadow = .claimed .copy) (hk : a.chunk = some k) :
    exec .chunkJobEnd s = .next (((s.copyChunk k).closeBank a.bank).afterChunk (a.counted (s.chunkCounts a k))) := by
  simp only [exec, execChunkJobEnd, ha, hs, hk, if_true]
  by_cases hp : a.phase = .copying
  · rw [if_pos hp, State.afterChunk, if_pos (by exact hp)]
  · rw [if_neg hp, State.afterChunk, if_neg (by exact hp)]

/-- The chunk's columns, as the obligation lists them. -/
theorem eq_chunkCols {cols : List Col} (h : cols.map Fin.val = (List.range 8).map fun i => 8 * k.val + i) : cols = chunkCols k :=
  List.map_injective_iff.mpr Fin.val_injective (h.trans (chunkCols_val k).symm)

theorem ChunkCopied.bankEq (h : ChunkCopied a k s t) : t.bank a.bank = { s.bank a.bank with
    tracker := (chunkTracked s.settings.threshold a (s.tracking a.bank)).1.tracker
    targets := (chunkTracked s.settings.threshold a (s.tracking a.bank)).1.targets
    records := ((s.bank a.bank).poisoned a.row (s.chunkCounts a k).2).records } := by
  refine (congrArg Prod.fst h.tracked).trans ?_
  unfold chunkTracked
  rw [afterActivation_frame, afterActivation_frame _ _ a.source]
  rfl

/-- The record of a chunk's job, its poison count raised (R20). -/
theorem BankState.poisoned_get {x : BankState} {d : Spare} {e : Rec} {r : LRow} (ht : x.tableOk) (he : x.records.get d = some e)
    (hr : e.row = r) (n : Nat) : (x.poisoned r n).records = x.records.set d.val (some { e with poison := min 64 (e.poison + n) }) d.isLt := by
  rw [BankState.poisoned, BankState.recOf_eq ht he hr]
  rfl

/-- Settles O25: the chunk is copied; the bank's release and the engine's next step leave all that the statement speaks of. -/
theorem chunkJobCopiesItsChunk : Obligations.ChunkJobCopiesItsChunk := by
  intro a k cols s hwf ha hs hk hcols
  dsimp only
  obtain rfl := eq_chunkCols hcols
  refine ⟨rfl, State.chunkCounts_eq s a k, _, exec_chunkJobEnd ha hs hk, ?_⟩
  have copied := State.copyChunk_copied ha k
  generalize hu : s.copyChunk k = u at copied ⊢
  have goes := State.afterChunk_goesOn (u.closeBank a.bank) (a.counted (s.chunkCounts a k))
  have frame := State.afterChunk_frame (a.counted (s.chunkCounts a k)) (u.closeBank a.bank)
  generalize (u.closeBank a.bank).afterChunk (a.counted (s.chunkCounts a k)) = t at goes frame ⊢
  have read (b : Bank) (p : PRow) (c : Col) : t.readBurst b p c = u.readBurst b p c := by rw [frame]; rfl
  have closed (b : Bank) : (u.closeBank a.bank).bank b = if b = a.bank then { u.bank b with shadow := .closed } else u.bank b := by
    rw [State.closeBank, State.bank_setBank]
    split
    · next h => rw [h]
    · rfl
  have own := (goes.bank a.bank).trans (by rw [closed, if_pos rfl, copied.bankEq])
  have other (b : Bank) (hb : b ≠ a.bank) := (goes.bank b).trans (by rw [closed, if_neg hb, copied.others b hb])
  refine ⟨?_, fun c hc => ?_, fun b p c h => ?_, ?_, ?_, ?_, fun hab ht d e he hr => ?_, fun b => ?_, fun b hb => ?_, fun n hn hn' => ?_, ?_⟩
  · rw [frame]
    exact copied.port
  · rw [read, copied.wrote hwf c (mem_chunkCols.mp hc)]
    rfl
  · rw [read]
    exact copied.kept b p c fun ⟨hb, hp, hc⟩ => h ⟨hb, hp, congrArg Fin.val hc⟩
  · rw [own]; rfl
  · rw [own]; rfl
  · exact (goes.notice _ (by decide)).trans (congrArg Prod.snd copied.tracked)
  · obtain ⟨records, -, -⟩ := goes.table a.bank fun h => absurd (h.symm.trans hab) (by decide)
    rw [records, closed, if_pos rfl, copied.bankEq]
    dsimp only
    rw [BankState.poisoned_get ht he hr, vget_set_self]
  · by_cases hb : b = a.bank
    · subst hb
      rw [if_pos rfl]
      generalize t.bank a.bank = z at own ⊢
      rw [own]
    · rw [if_neg hb]
      have own := other b hb
      generalize t.bank b = z at own ⊢
      rw [own]
  · obtain ⟨records, spares, passover⟩ := goes.table b fun _ => hb
    rw [records, spares, passover, other b hb, closed, if_neg hb, copied.others b hb]
    exact ⟨rfl, rfl, rfl, rfl, rfl⟩
  · exact (goes.notice n hn').trans (copied.notice n hn)
  · generalize t.banks = x1, t.active = x2, t.migQueue = x3, t.notices = x4, t.alert = x5 at frame ⊢
    rw [frame, State.closeBank, State.setBank, copied.frame]
/-! ### The next claim -/

/-- The engine has entered a phase with a context, its claim placed (R74). -/
structure Entered (a : Active) (t : State) : Prop where
  active : t.active = some a
  claim : (t.bank a.bank).migClaim = some a.phase.claim

theorem State.enter_entered (s : State) (a : Active) (p : Phase) : Entered { a with phase := p } (s.enter a p p.claim) := by
  refine ⟨rfl, ?_⟩
  rw [State.enter, State.placeClaim, State.bank_setBank_self]

/-- The context after the decision at the end of a pass without an abort (R81). -/
def Active.decided (limit : Nat) (a : Active) : Active :=
  if a.maskEmpty then { a with phase := .switching }
  else if a.passesDone < limit then { a with phase := .recopying, passPos := none }
  else { a with phase := .final }

theorem State.passDecision_entered (s : State) {a : Active} (hab : a.abort = false) :
    Entered (a.decided s.settings.recopyLimit) (s.passDecision a) := by
  have live : ¬ a.abort = true := by rw [hab]; decide
  rw [State.passDecision, if_neg live, Active.decided]
  split
  · exact State.enter_entered s a .switching
  · split
    · exact State.enter_entered s { a with passPos := none } .recopying
    · exact State.enter_entered s a .final

/-- The context after a chunk job without an abort (R78, R80, R81). -/
def Active.afterChunk (limit : Nat) (a : Active) : Active :=
  if a.phase = .copying then
    if a.cursor + 1 < 8 then { a with cursor := a.cursor + 1, phase := .copying } else Active.decided limit { a with cursor := a.cursor + 1 }
  else if a.nextFlagged.isSome then { a with phase := .recopying }
  else Active.decided limit { a with passesDone := a.passesDone + 1 }

theorem State.afterChunk_entered (s : State) {a : Active} (hab : a.abort = false) :
    Entered (a.afterChunk s.settings.recopyLimit) (s.afterChunk a) := by
  have live : ¬ a.abort = true := by rw [hab]; decide
  unfold State.afterChunk Active.afterChunk
  split
  · rw [State.afterMainChunk]
    dsimp only
    rw [if_neg live]
    split
    · exact State.enter_entered s { a with cursor := a.cursor + 1 } .copying
    · exact State.passDecision_entered s hab
  · rw [State.afterRecopyChunk, if_neg live]
    split
    · exact State.enter_entered s a .recopying
    · exact State.passDecision_entered s hab

/-- What the decision sets, and what it keeps. -/
theorem Active.decided_spec (limit : Nat) (a : Active) :
    a.decided limit = { a with phase := (a.decided limit).phase, passPos := (a.decided limit).passPos }
    ∧ (if (∀ j : Chunk, a.mask.get j = false) then (a.decided limit).phase = .switching ∧ (a.decided limit).passPos = a.passPos
      else if a.passesDone < limit then (a.decided limit).phase = .recopying ∧ (a.decided limit).passPos = none
      else (a.decided limit).phase = .final ∧ (a.decided limit).passPos = a.passPos) := by
  unfold Active.decided
  by_cases hm : a.maskEmpty = true
  · rw [if_pos hm, if_pos (Active.maskEmpty_iff.mp hm)]
    exact ⟨rfl, rfl, rfl⟩
  · rw [if_neg hm, if_neg (mt Active.maskEmpty_iff.mpr hm)]
    split <;> exact ⟨rfl, rfl, rfl⟩

/-- A chunk job runs in COPYING or RECOPYING. -/
theorem Active.phase_of_chunk (h : a.chunk = some k) : a.phase = .copying ∨ a.phase = .recopying := by
  unfold Active.chunk at h
  cases hp : a.phase with
  | copying => exact .inl rfl
  | recopying => exact .inr rfl
  | switching | final => rw [hp] at h; cases h

/-- What follows a chunk job of the main pass (R78, R81). -/
theorem Active.afterChunk_copying (limit : Nat) (hp : a.phase = .copying) :
    a.afterChunk limit = { a with
      phase := (a.afterChunk limit).phase, cursor := a.cursor + 1, passPos := (a.afterChunk limit).passPos }
    ∧ (if a.cursor + 1 < 8 then (a.afterChunk limit).phase = .copying ∧ (a.afterChunk limit).passPos = a.passPos
      else if (∀ j : Chunk, a.mask.get j = false) then (a.afterChunk limit).phase = .switching ∧ (a.afterChunk limit).passPos = a.passPos
      else if (a.afterChunk limit).passesDone < limit then (a.afterChunk limit).phase = .recopying ∧ (a.afterChunk limit).passPos = none
      else (a.afterChunk limit).phase = .final ∧ (a.afterChunk limit).passPos = a.passPos) := by
  rw [Active.afterChunk, if_pos hp]
  by_cases hc : a.cursor + 1 < 8
  · rw [if_pos hc, if_pos hc]
    exact ⟨rfl, rfl, rfl⟩
  · rw [if_neg hc, if_neg hc]
    obtain ⟨shape, decides⟩ := Active.decided_spec limit { a with cursor := a.cursor + 1 }
    have passes : (Active.decided limit { a with cursor := a.cursor + 1 }).passesDone = a.passesDone := by rw [shape]
    rw [passes]
    exact ⟨shape, decides⟩

/-- What follows a chunk job of a recopy pass (R80, R81). -/
theorem Active.afterChunk_recopying (limit : Nat) (hp : a.phase = .recopying) :
    a.afterChunk limit = { a with
      phase := (a.afterChunk limit).phase, passPos := (a.afterChunk limit).passPos
      passesDone := if a.nextFlagged = none then a.passesDone + 1 else a.passesDone }
    ∧ (if a.nextFlagged ≠ none then (a.afterChunk limit).phase = .recopying ∧ (a.afterChunk limit).passPos = a.passPos
      else if (∀ j : Chunk, a.mask.get j = false) then (a.afterChunk limit).phase = .switching ∧ (a.afterChunk limit).passPos = a.passPos
      else if (a.afterChunk limit).passesDone < limit then (a.afterChunk limit).phase = .recopying ∧ (a.afterChunk limit).passPos = none
      else (a.afterChunk limit).phase = .final ∧ (a.afterChunk limit).passPos = a.passPos) := by
  rw [Active.afterChunk, if_neg (by rw [hp]; decide)]
  cases hf : a.nextFlagged with
  | some j => exact ⟨rfl, rfl, rfl⟩
  | none =>
    obtain ⟨shape, decides⟩ := Active.decided_spec limit { a with passesDone := a.passesDone + 1 }
    have passes : (Active.decided limit { a with passesDone := a.passesDone + 1 }).passesDone = a.passesDone + 1 := by rw [shape]
    refine ⟨shape, ?_⟩
    rw [if_neg (fun h => h rfl)]
    show (if _ then _ else if Active.passesDone (Active.decided limit { a with passesDone := a.passesDone + 1 }) < limit then _ else _)
    rw [passes]
    exact decides

theorem Active.afterChunk_bank (limit : Nat) (h : a.chunk = some k) : (a.afterChunk limit).bank = a.bank := by
  rcases Active.phase_of_chunk h with hp | hp
  · rw [(Active.afterChunk_copying limit hp).1]
  · rw [(Active.afterChunk_recopying limit hp).1]

/-- Settles O26: the phases of a chunk job, each with its next claim or the decision at the end of the pass. -/
theorem engineAfterAChunkJob : Obligations.EngineAfterAChunkJob := by
  intro a k s ha hs hk hab
  generalize hn : s.chunkCounts a k = n
  have settings : ((s.copyChunk k).closeBank a.bank).settings = s.settings := by
    rw [State.closeBank, State.setBank_settings, State.copyChunk_frame]
  have entered := State.afterChunk_entered ((s.copyChunk k).closeBank a.bank) (a := a.counted n) hab
  have claim := entered.claim
  rw [Active.afterChunk_bank (a := a.counted n) (k := k) _ hk] at claim
  refine ⟨_, _, by rw [exec_chunkJobEnd ha hs hk, hn], entered.active, claim, ?_⟩
  rw [settings]
  rcases Active.phase_of_chunk hk with hp | hp
  · simp only [hp, true_and, reduceCtorEq, false_and, if_true, if_false]
    exact Active.afterChunk_copying (a := a.counted n) _ hp
  · simp only [hp, true_and, reduceCtorEq, false_and, if_false]
    exact Active.afterChunk_recopying (a := a.counted n) _ hp

/-! ### An abort -/

/-- An abort that waited for the chunk job takes effect at its end, in either phase (R85). -/
theorem State.afterChunk_abort (s : State) {a : Active} (h : a.abort = true) : s.afterChunk a = s.abortNow a := by
  unfold State.afterChunk State.afterMainChunk State.afterRecopyChunk
  dsimp only
  rw [if_pos h]
  split <;> rfl

/-- Settles O27: the abort takes the record as the chunk's poison count left it. -/
theorem abortAfterAChunkJob : Obligations.AbortAfterAChunkJob := by
  intro a k d e old s ha hs hk hab hm ht he hr hst
  have copied := State.copyChunk_copied ha k
  rw [exec_chunkJobEnd ha hs hk, State.afterChunk_abort _ (by exact hab)]
  generalize s.copyChunk k = u at copied ⊢
  generalize hn : s.chunkCounts a k = n at copied ⊢
  generalize hx : (u.closeBank a.bank).bank a.bank = x
  have own : x = { u.bank a.bank with shadow := .closed } := by rw [← hx]; exact State.bank_setBank_self ..
  rw [copied.bankEq, hn, BankState.poisoned_get ht he hr] at own
  have unclaimed : x.migClaim = none := by rw [own]; exact hm
  have withdrawn : x.withdrawn = x := by simp [BankState.withdrawn, unclaimed]
  have found : x.recOf a.row = some (d, { e with poison := min 64 (e.poison + n.2) }) := by
    have table : x.tableOk := by
      rw [own]
      exact BankState.setRec_tableOk (x := s.bank a.bank) ht (e' := { e with poison := min 64 (e.poison + n.2) }) he rfl rfl
    refine BankState.recOf_eq table ?_ hr
    rw [own]
    exact vget_set_self ..
  have notices : u.notice .migrationAborted = s.notice .migrationAborted := copied.notice _ (by decide)
  have aborted : (u.closeBank a.bank).abortNow (a.counted n) = State.takeJob
      { ((u.closeBank a.bank).setBank a.bank (x.giveUp d { e with poison := min 64 (e.poison + n.2) } old)).raise .migrationAborted
        (some a.bank) (some a.row) (.spare d) with active := none } := by
    have same : (u.closeBank a.bank).setBank a.bank ((u.closeBank a.bank).bank a.bank).withdrawn = u.closeBank a.bank := by
      rw [hx, withdrawn, ← hx, State.setBank_bank]
    show State.takeJob { ((u.closeBank a.bank).setBank a.bank ((u.closeBank a.bank).bank a.bank).withdrawn).abortRecord (a.counted n) with
      active := none } = _
    rw [same]
    simp only [State.abortRecord, Active.counted, hx, found, hst]
  refine ⟨_, congrArg _ aborted, rfl, ?_, ?_, fun b hb => ?_, ?_, ?_, ?_⟩
  · show u.migQueue = _
    rw [copied.frame]
  · show (State.bank (State.setBank ..) a.bank).migClaim = none
    rw [State.bank_setBank_self, BankState.giveUp_frame]
    exact unclaimed
  · show State.bank (State.setBank ..) b = s.bank b
    rw [State.bank_setBank_of_ne _ _ hb, State.closeBank, State.bank_setBank_of_ne _ _ hb, copied.others b hb]
  · show (State.bank (State.setBank ..) a.bank).spares = _
    rw [State.bank_setBank_self, own]
    rcases old with _ | ⟨f, retire⟩ <;> rfl
  · show (State.bank (State.setBank ..) a.bank).records = _
    rw [State.bank_setBank_self, own]
    rcases old with _ | ⟨f, retire⟩ <;>
      simp only [BankState.giveUp, BankState.setRec, BankState.setSpare, Vector.set_set]
  · show State.notice (State.raise ..) .migrationAborted = _
    rw [State.notice_raise, if_pos rfl, ← notices]
    rfl

end

end Sys2Proof.Machine
end

section
/-! The end of a FINAL job: every flagged chunk copied, and the switch taken (O28). -/
namespace Sys2Proof.Machine
open Sys2Proof

section
variable {s t : State} {a : Active} {k : Chunk}

/-! ### The tracker over several chunks -/

/-- The activations of the chunk jobs of a list of chunks (R92). -/
def chunksTracked (T : Nat) (a : Active) (ks : List Chunk) (y : BankState × NoticeEntry) : BankState × NoticeEntry :=
  ks.foldl (fun y _ => chunkTracked T a y) y

theorem chunksTracked_records (T : Nat) (a : Active) (ks : List Chunk) (y : BankState × NoticeEntry) (r : Vector (Option Rec) 8) :
    chunksTracked T a ks ({ y.1 with records := r }, y.2) =
      ({ (chunksTracked T a ks y).1 with records := r }, (chunksTracked T a ks y).2) := by
  induction ks generalizing y with
  | nil => rfl
  | cons k ks ih =>
    simp only [chunksTracked, List.foldl_cons, chunkTracked, afterActivation_records] at ih ⊢
    exact ih _

theorem chunksTracked_frame (T : Nat) (a : Active) (ks : List Chunk) (y : BankState × NoticeEntry) : (chunksTracked T a ks y).1 = { y.1 with
    tracker := (chunksTracked T a ks y).1.tracker, targets := (chunksTracked T a ks y).1.targets } := by
  induction ks generalizing y with
  | nil => rfl
  | cons k ks ih =>
    refine (ih (chunkTracked T a y)).trans ?_
    unfold chunkTracked
    rw [afterActivation_frame, afterActivation_frame _ _ a.source]
    rfl

/-! ### The flagged chunks copied -/

/-- What the chunk jobs of a list of chunks leave, but for the buffer and the active job. -/
structure ChunksCopied (a : Active) (ks : List Chunk) (s t : State) : Prop where
  port : t.stackPort = s.stackPort ++ ks.flatMap a.chunkOps
  wrote : s.stackOk → ∀ c, chunkOf c ∈ ks → t.readBurst a.bank a.dest c = (checkBurst (s.readBurst a.bank a.source c)).written
  kept : ∀ b p c, ¬ (b = a.bank ∧ p = a.dest ∧ chunkOf c ∈ ks) → t.readBurst b p c = s.readBurst b p c
  bank : t.bank a.bank = { s.bank a.bank with
    tracker := (chunksTracked s.settings.threshold a ks (s.tracking a.bank)).1.tracker
    targets := (chunksTracked s.settings.threshold a ks (s.tracking a.bank)).1.targets
    records := (t.bank a.bank).records }
  overflow : t.notice .targetOverflow = (chunksTracked s.settings.threshold a ks (s.tracking a.bank)).2
  record : (s.bank a.bank).tableOk → ∀ d e, (s.bank a.bank).records.get d = some e → e.row = a.row →
    (t.bank a.bank).records = (s.bank a.bank).records.set d.val
      (some { e with poison := ks.foldl (fun n k => min 64 (n + (s.chunkCounts a k).2)) e.poison }) d.isLt
  others : ∀ b, b ≠ a.bank → t.bank b = s.bank b
  notice : ∀ n, n ≠ .targetOverflow → t.notice n = s.notice n

/-- A chunk job leaves the source's bursts, and so what later chunk jobs count. -/
theorem State.chunkCounts_congr (h : ∀ c, t.readBurst a.bank a.source c = s.readBurst a.bank a.source c) (k : Chunk) :
    t.chunkCounts a k = s.chunkCounts a k := by
  rw [State.chunkCounts_eq, State.chunkCounts_eq]
  simp only [h]

/-- The record of the job in the bank a chunk job leaves. -/
theorem ChunkCopied.record (h : ChunkCopied a k s t) (ht : (s.bank a.bank).tableOk) {d : Spare} {e : Rec}
    (he : (s.bank a.bank).records.get d = some e) (hr : e.row = a.row) : (t.bank a.bank).tableOk
    ∧ (t.bank a.bank).records = (s.bank a.bank).records.set d.val
      (some { e with poison := min 64 (e.poison + (s.chunkCounts a k).2) }) d.isLt := by
  rw [h.bankEq, BankState.poisoned_get ht he hr]
  exact ⟨BankState.setRec_tableOk (x := s.bank a.bank) ht (e' := { e with poison := min 64 (e.poison + (s.chunkCounts a k).2) }) he rfl rfl, rfl⟩

/-- One chunk more, in front. -/
theorem ChunksCopied.cons {ks : List Chunk} {u : State} (hne : a.source ≠ a.dest)
    (h : ChunkCopied a k s u) (h' : ChunksCopied a ks u t) : ChunksCopied a (k :: ks) s t := by
  have source (c : Col) : u.readBurst a.bank a.source c = s.readBurst a.bank a.source c := h.kept _ _ _ fun hd => hne hd.2.1
  have settings : u.settings = s.settings := by rw [h.frame]
  have tracked := chunksTracked_records s.settings.threshold a ks (chunkTracked s.settings.threshold a (s.tracking a.bank))
    ((s.bank a.bank).poisoned a.row (s.chunkCounts a k).2).records
  rw [← h.tracked] at tracked
  refine ⟨?_, fun hwf c hc => ?_, fun b p c hc => ?_, ?_, ?_, fun ht d e he hr => ?_, fun b hb => ?_, fun n hn => ?_⟩
  · rw [h'.port, h.port, List.flatMap_cons, List.append_assoc]
  · by_cases hck : chunkOf c ∈ ks
    · rw [h'.wrote (h.stackOk hwf) c hck, source]
    · have here : chunkOf c = k := (List.mem_cons.mp hc).resolve_right hck
      rw [h'.kept _ _ _ fun hd => hck hd.2.2, h.wrote hwf c here]
  · rw [h'.kept b p c fun ⟨hb, hp, hm⟩ => hc ⟨hb, hp, List.mem_cons_of_mem _ hm⟩,
      h.kept b p c fun ⟨hb, hp, hm⟩ => hc ⟨hb, hp, hm ▸ List.mem_cons_self⟩]
  · have own := h'.bank
    rw [settings, tracked] at own
    generalize t.bank a.bank = z at own ⊢
    rw [own, h.bankEq]
    rfl
  · rw [h'.overflow, settings, tracked]
    rfl
  · obtain ⟨table, record⟩ := h.record ht he hr
    have found : (u.bank a.bank).records.get d = some { e with poison := min 64 (e.poison + (s.chunkCounts a k).2) } := by
      rw [record, vget_set_self]
    rw [h'.record table d _ found hr, record, Vector.set_set, List.foldl_cons]
    simp only [State.chunkCounts_congr source]
  · rw [h'.others b hb, h.others b hb]
  · rw [h'.notice n hn, h.notice n hn]

/-- The flags and the counts of the context, and the active job, play no part. -/
theorem ChunksCopied.of_flags {ks : List Chunk} {m : Vector Bool 8} {i j : Nat}
    (h : ChunksCopied { a with mask := m, corrected := i, poisoned := j } ks s t) : ChunksCopied a ks s t :=
  ⟨h.port, h.wrote, h.kept, h.bank, h.overflow, h.record, h.others, h.notice⟩

theorem State.copyFlagged_copied {ks : List Chunk} (hne : a.source ≠ a.dest) (ha : s.active = some a) :
    ChunksCopied a ks s (s.copyFlagged ks) := by
  induction ks generalizing s a with
  | nil =>
    refine ⟨by simp [State.copyFlagged], fun _ c hc => absurd hc List.not_mem_nil, fun _ _ _ _ => rfl, rfl, rfl, fun _ d e he _ => ?_,
      fun _ _ => rfl, fun _ _ => rfl⟩
    have he : (s.bank a.bank).records[d.val] = some e := he
    rw [List.foldl_nil]
    show _ = (s.bank a.bank).records.set d.val (some e) d.isLt
    rw [← he, Vector.set_getElem_self]
    rfl
  | cons k ks ih =>
    have cleared : ({ s with active := s.active.map fun (a : Active) => a.setFlag k false } : State) = { s with active := some (a.setFlag k false) } := by
      rw [ha]; rfl
    have copied := State.copyChunk_copied (s := { s with active := some (a.setFlag k false) }) rfl k
    have rest := ih (a := (a.setFlag k false).counted (State.chunkCounts { s with active := some (a.setFlag k false) } (a.setFlag k false) k))
      hne copied.active
    have all := ChunksCopied.cons (a := a.setFlag k false) hne copied rest.of_flags
    rw [State.copyFlagged, List.foldl_cons, cleared]
    exact ⟨all.port, all.wrote, all.kept, all.bank, all.overflow, all.record, all.others, all.notice⟩

/-! ### The switch -/

/-- The switch taken, but for the next job: the record switched, the bank CLOSED, the engine IDLE (R84). -/
def State.switchedJob (a : Active) (s : State) : State := { (s.switchRecord a).closeBank a.bank with active := none }

theorem State.switchedJob_frame (s : State) (a : Active) : s.switchedJob a = { s with
    banks := (s.switchedJob a).banks, active := none, notices := (s.switchedJob a).notices, alert := (s.switchedJob a).alert } := by
  unfold State.switchedJob
  rw [State.closeBank_frame, State.switchRecord_frame]

theorem State.takeSwitch_eq (s : State) (a : Active) : s.takeSwitch a = (s.switchedJob a).takeJob := rfl

theorem exec_finalJobEnd (ha : s.active = some a) (hs : (s.bank a.bank).shadow = .claimed .final) :
    exec .finalJobEnd s = .next (((s.copyFlagged a.flagged).switchedJob a).takeJob) := by
  simp only [exec, execFinalJobEnd, ha, hs, if_true, State.takeSwitch_eq]

/-- What the switch of a job may change (R21, R22). -/
structure Switches (a : Active) (s t : State) : Prop where
  bank : t.bank a.bank = { s.bank a.bank with records := (t.bank a.bank).records, spares := (t.bank a.bank).spares }
  others : ∀ b, b ≠ a.bank → t.bank b = s.bank b
  notice : ∀ n, n ≠ .migrationDone → n ≠ .returnDone → t.notice n = s.notice n

theorem Switches.refl (s : State) : Switches a s s := ⟨rfl, fun _ _ => rfl, fun _ _ _ => rfl⟩

theorem Switches.raised {x : BankState} {n : NoticeKind} {d : Detail} (hn : n = .migrationDone ∨ n = .returnDone)
    (hx : x = { s.bank a.bank with records := x.records, spares := x.spares }) :
    Switches a s ((s.setBank a.bank x).raise n (some a.bank) (some a.row) d) := by
  refine ⟨?_, fun b hb => ?_, fun m hm hr => ?_⟩
  · rw [State.raise_bank, State.bank_setBank_self]
    exact hx
  · rw [State.raise_bank, State.bank_setBank_of_ne _ _ hb]
  · rw [State.notice_raise, if_neg (by rintro rfl; rcases hn with h | h; exacts [hm h, hr h])]
    rfl

theorem State.switchRecord_switches (s : State) (a : Active) : Switches a s (s.switchRecord a) := by
  unfold State.switchRecord
  split
  · exact .refl s
  · split
    · exact .raised (.inl rfl) (by rw [BankState.switched_frame])
    · exact .raised (.inr rfl) rfl
    · exact .refl s

theorem State.switchedJob_bank (s : State) (a : Active) (b : Bank) : (s.switchedJob a).bank b =
    if b = a.bank then { (s.switchRecord a).bank b with shadow := .closed } else (s.switchRecord a).bank b := by
  show State.bank (State.setBank ..) b = _
  rw [State.bank_setBank]
  split
  · next h => rw [h]
  · rfl

/-- The switch of a move (R21). -/
theorem State.switchRecord_move {d : Spare} {e : Rec} {old : Option (Spare × Bool)} (hf : (s.bank a.bank).recOf a.row = some (d, e))
    (hk : a.kind = .move) (hs : e.state = .migrating old) : s.switchRecord a = (s.setBank a.bank ((s.bank a.bank).switched d e old)).raise
      .migrationDone (some a.bank) (some a.row) (.poison e.poison) := by
  simp only [State.switchRecord, hf, hk, hs]

/-- The switch of a return (R22). -/
theorem State.switchRecord_return {d : Spare} {e : Rec} (hf : (s.bank a.bank).recOf a.row = some (d, e))
    (hk : a.kind = .ret) (hs : e.state = .returning) : s.switchRecord a = (s.setBank a.bank ((s.bank a.bank).returned d)).raise
      .returnDone (some a.bank) (some a.row) (.poison e.poison) := by
  simp only [State.switchRecord, hf, hk, hs]

theorem Active.mem_flagged {c : Chunk} : c ∈ a.flagged ↔ a.mask.get c = true := by simp [Active.flagged]

/-- The record of the job in the bank the FINAL job's copies leave. -/
theorem ChunksCopied.found {ks : List Chunk} (h : ChunksCopied a ks s t) (ht : (s.bank a.bank).tableOk) {d : Spare} {e : Rec}
    (he : (s.bank a.bank).records.get d = some e) (hr : e.row = a.row) : (t.bank a.bank).recOf a.row =
      some (d, { e with poison := ks.foldl (fun n k => min 64 (n + (s.chunkCounts a k).2)) e.poison }) := by
  have record := h.record ht d e he hr
  refine BankState.recOf_eq ?_ (by rw [record, vget_set_self]) hr
  have bank := h.bank
  generalize t.bank a.bank = z at record bank ⊢
  rw [bank, record]
  exact BankState.setRec_tableOk (x := s.bank a.bank) ht (e' := { e with poison := _ }) he rfl rfl

/-- Settles O28: the flagged chunks by `State.copyFlagged_copied`, then the switch of the record as they leave it. -/
theorem finalJobCopiesAndSwitches : Obligations.FinalJobCopiesAndSwitches := by
  intro a s hwf ha hs hne
  dsimp only
  have copied := State.copyFlagged_copied (ks := a.flagged) hne ha
  have frame := State.copyFlagged_frame a.flagged s
  refine ⟨_, exec_finalJobEnd ha hs, rfl, ?_⟩
  generalize s.copyFlagged a.flagged = v at copied frame ⊢
  have switches := State.switchRecord_switches v a
  have switchFrame := State.switchRecord_frame a v
  have notice (n : NoticeKind) : (v.switchedJob a).notice n = (v.switchRecord a).notice n := rfl
  have read (b : Bank) (p : PRow) (c : Col) : (v.switchedJob a).readBurst b p c = v.readBurst b p c := by
    show State.readBurst (v.switchRecord a) b p c = _
    rw [switchFrame]
    rfl
  have own := State.switchedJob_bank v a a.bank
  rw [if_pos rfl] at own
  refine ⟨?_, ?_, fun c hc => ?_, fun b p c h => ?_, fun ht d e he hr => ?_, ?_, fun b hb => ?_, ?_, fun n h1 h2 h3 => ?_, ?_⟩
  · show (v.switchRecord a).migQueue = _
    rw [switchFrame, frame]
  · show (v.switchRecord a).stackPort = _
    rw [switchFrame]
    exact copied.port
  · rw [read, copied.wrote hwf c (Active.mem_flagged.mpr hc)]
    rfl
  · rw [read, copied.kept b p c fun ⟨hb, hp, hm⟩ => h ⟨hb, hp, Active.mem_flagged.mp hm⟩]
  · have found := copied.found ht he hr
    have records := copied.record ht d e he hr
    have spares : (v.bank a.bank).spares = (s.bank a.bank).spares := by rw [copied.bank]
    have notices (n : NoticeKind) (hn : n ≠ .targetOverflow) : v.notice n = s.notice n := copied.notice n hn
    refine ⟨fun old hk hst => ?_, fun hk hst => ?_⟩
    · have switched := State.switchRecord_move found hk hst
      rw [notice, notice, own, switched, State.raise_bank, State.bank_setBank_self, State.notice_raise, State.notice_raise, if_pos rfl,
        if_neg (by decide)]
      refine ⟨?_, ?_, ?_, notices _ (by decide)⟩
      · rcases old with _ | ⟨f, retire⟩ <;>
          simp only [BankState.switched, BankState.setRec, BankState.setSpare, records, Vector.set_set] <;> rfl
      · rcases old with _ | ⟨f, retire⟩ <;> simp only [BankState.switched, BankState.setRec, BankState.setSpare, spares]
      · show NoticeEntry.raised _ _ _ (v.notice .migrationDone) = _
        rw [notices _ (by decide)]
        rfl
    · have switched := State.switchRecord_return found hk hst
      rw [notice, notice, own, switched, State.raise_bank, State.bank_setBank_self, State.notice_raise, State.notice_raise, if_pos rfl,
        if_neg (by decide)]
      refine ⟨?_, ?_, ?_, notices _ (by decide)⟩
      · simp only [BankState.returned, BankState.setRec, BankState.setSpare, records, Vector.set_set]
      · simp only [BankState.returned, BankState.setRec, BankState.setSpare, spares]
      · show NoticeEntry.raised _ _ _ (v.notice .returnDone) = _
        rw [notices _ (by decide)]
        rfl
  · have bank := switches.bank
    generalize (v.switchedJob a).bank a.bank = z at own ⊢
    rw [own]
    generalize (v.switchRecord a).bank a.bank = z' at bank ⊢
    rw [bank, copied.bank]
    rfl
  · rw [State.switchedJob_bank, if_neg hb, switches.others b hb, copied.others b hb]
  · rw [notice, switches.notice _ (by decide) (by decide), copied.overflow]
    rfl
  · rw [notice, switches.notice n h2 h3, copied.notice n h1]
  · have shape := State.switchedJob_frame v a
    generalize v.switchedJob a = w at shape ⊢
    generalize w.banks = x1, w.notices = x2, w.alert = x3 at shape ⊢
    rw [shape, frame]

end

end Sys2Proof.Machine
end

section
/-! The part reset: what of a job and of the refreshes is done, and everything else at its reset values (O52). -/
namespace Sys2Proof.Machine
open Sys2Proof

section
variable {s : State} {a : Active} {k : Nat}

/-! ### The writes of a job among its first row operations -/

/-- The burst writes of a chunk job are its operations 11 to 18 (R75). -/
theorem Active.chunkOps_countWrites (a : Active) (q : Chunk) (k : Nat) :
    ((a.chunkOps q).take k).countP StackOp.isWrite = min 8 (k - 11) := by
  have kinds : (a.chunkOps q).map StackOp.isWrite = List.replicate 11 false ++ (List.replicate 8 true ++ [false]) := rfl
  have counts : ((a.chunkOps q).take k).countP StackOp.isWrite = (((a.chunkOps q).map StackOp.isWrite).take k).count true := by
    rw [← List.map_take, List.count_eq_countP, List.countP_map]
    exact List.countP_congr fun x _ => by simp
  have last : ([false].take (k - 11 - 8)).count true = 0 :=
    List.count_eq_zero.mpr fun h => by simpa using List.mem_of_mem_take h
  rw [counts, kinds]
  simp only [List.take_append, List.count_append, List.take_replicate, List.count_replicate, List.length_replicate, last]
  simp
  omega

theorem Active.chunkOps_length (a : Active) (q : Chunk) : (a.chunkOps q).length = 20 := rfl

/-- How many burst writes are among the first `k` row operations of the chunk jobs of a list (R75, R83). -/
def Active.writesDone (a : Active) (qs : List Chunk) (k : Nat) : Nat := ((qs.flatMap a.chunkOps).take k).countP StackOp.isWrite

theorem Active.writesDone_cons (a : Active) (q : Chunk) (qs : List Chunk) (k : Nat) :
    a.writesDone (q :: qs) k = min 8 (k - 11) + a.writesDone qs (k - 20) := by
  rw [Active.writesDone, List.flatMap_cons, List.take_append, List.countP_append, Active.chunkOps_countWrites, Active.chunkOps_length]
  rfl

theorem Active.writesDone_zero (a : Active) (qs : List Chunk) : a.writesDone qs 0 = 0 := by simp [Active.writesDone]

/-- Burst write j of chunk job i is the job's operation 20 i + 11 + j. -/
theorem Active.lt_writesDone {qs : List Chunk} {i j : Nat} (hi : i < qs.length) (hj : j < 8) :
    8 * i + j < a.writesDone qs k ↔ 20 * i + 11 + j < k := by
  induction qs generalizing i k with
  | nil => cases hi
  | cons q qs ih =>
    rw [Active.writesDone_cons]
    rcases Nat.lt_or_ge 20 k with hk | hk
    · cases i with
      | zero => omega
      | succ i =>
        have rest := ih (i := i) (k := k - 20) (by simpa using hi)
        omega
    · rw [Nat.sub_eq_zero_of_le hk, Active.writesDone_zero]
      omega

/-- The columns of the first `n` burst writes of a job, by chunk job and burst. -/
theorem mem_take_chunkCols {qs : List Chunk} {n : Nat} {c : Col} : c ∈ (qs.flatMap chunkCols).take n ↔
    ∃ (i j : Nat) (q : Chunk), qs[i]? = some q ∧ c.val = 8 * q.val + j ∧ j < 8 ∧ 8 * i + j < n := by
  induction qs generalizing n with
  | nil => simp
  | cons q qs ih =>
    have first : c ∈ (chunkCols q).take n ↔ ∃ j, c.val = 8 * q.val + j ∧ j < 8 ∧ j < n := by
      have vals : c ∈ (chunkCols q).take n ↔ c.val ∈ ((chunkCols q).map Fin.val).take n := by
        rw [← List.map_take, List.mem_map_of_injective Fin.val_injective]
      rw [vals, chunkCols_val, ← List.map_take, List.take_range]
      simp only [List.mem_map, List.mem_range, lt_min_iff]
      exact ⟨fun ⟨j, ⟨hn, h8⟩, he⟩ => ⟨j, he.symm, h8, hn⟩, fun ⟨j, he, h8, hn⟩ => ⟨j, ⟨hn, h8⟩, he.symm⟩⟩
    have length : (chunkCols q).length = 8 := by simp [chunkCols]
    rw [List.flatMap_cons, List.take_append, List.mem_append, first, ih, length]
    constructor
    · rintro (⟨j, hc, h8, hn⟩ | ⟨i, j, q', hq, hc, h8, hn⟩)
      · exact ⟨0, j, q, rfl, hc, h8, by omega⟩
      · exact ⟨i + 1, j, q', by simpa using hq, hc, h8, by omega⟩
    · rintro ⟨i, j, q', hq, hc, h8, hn⟩
      cases i with
      | zero =>
        obtain rfl : q = q' := by simpa using hq
        exact .inl ⟨j, hc, h8, by omega⟩
      | succ i => exact .inr ⟨i, j, q', by simpa using hq, hc, h8, by omega⟩

/-- The burst writes done of the chunk jobs of a list, after their first `k` row operations. -/
def State.writesTo (s : State) (a : Active) (qs : List Chunk) (k : Nat) : List (Col × Burst) :=
  (qs.flatMap (s.chunkWrites a)).take (a.writesDone qs k)

theorem State.writesTo_eq (s : State) (a : Active) (qs : List Chunk) (k : Nat) : s.writesTo a qs k =
    ((qs.flatMap chunkCols).take (a.writesDone qs k)).map fun c => (c, (checkBurst (s.readBurst a.bank a.source c)).written) := by
  have writes : s.chunkWrites a = fun q => (chunkCols q).map fun c => (c, (checkBurst (s.readBurst a.bank a.source c)).written) :=
    funext fun q => State.chunkWrites_eq s a q
  rw [State.writesTo, writes, ← List.map_flatMap, List.map_take]

/-- Writing bursts, each the one of its column, leaves at a column written its burst. -/
theorem writeBursts_read_of_fun {b : Bank} {p : PRow} {c : Col} (g : Col → Burst) (cs : List Col) {s : State}
    (hwf : Memory.wf s.stack = true) (h : c ∈ cs) : (writeBursts b p (cs.map fun c => (c, g c)) s).readBurst b p c = g c := by
  induction cs generalizing s with
  | nil => cases h
  | cons d cs ih =>
    show (writeBursts b p (cs.map fun c => (c, g c)) (s.writeBurst b p d (g d))).readBurst b p c = g c
    by_cases hc : c ∈ cs
    · exact ih (Memory.wf_write hwf _ _) hc
    · obtain rfl : c = d := (List.mem_cons.mp h).resolve_right hc
      rw [writeBursts_read_of_ne]
      · exact State.readBurst_writeBurst_self hwf ..
      · intro w hw he
        obtain ⟨e, hm, rfl⟩ := List.mem_map.mp hw
        simp only [Prod.mk.injEq, true_and] at he
        exact hc (he ▸ hm)

/-! ### The job abandoned -/

/-- The row operations of the COPY or FINAL job that holds its bank, if one does. -/
def State.jobOps (s : State) : List StackOp := s.active.elim [] fun a => (s.jobChunks a).flatMap a.chunkOps

theorem State.jobChunks_eq (s : State) (a : Active) : s.jobChunks a =
    if (s.bank a.bank).shadow = .claimed .copy then a.chunk.toList
    else if (s.bank a.bank).shadow = .claimed .final then (List.finRange 8).filter fun c : Chunk => a.mask.get c
    else [] := by
  unfold State.jobChunks
  split
  · next h => rw [if_pos h]
  · next h => rw [if_neg (by rw [h]; decide), if_pos h]; rfl
  · next h h' => rw [if_neg h, if_neg h']

/-- The column of a burst write that is done of the job abandoned after its first `k` row operations. -/
def State.abandonedWrite (s : State) (a : Active) (k : Nat) (c : Col) : Prop :=
  ∃ (i j : Nat) (q : Chunk), (s.jobChunks a)[i]? = some q ∧ c.val = 8 * q.val + j ∧ j < 8 ∧ 20 * i + 11 + j < k

theorem State.abandonedWrite_iff {c : Col} : s.abandonedWrite a k c ↔
    c ∈ ((s.jobChunks a).flatMap chunkCols).take (a.writesDone (s.jobChunks a) k) := by
  rw [mem_take_chunkCols]
  refine exists_congr fun i => exists_congr fun j => exists_congr fun q => and_congr_right fun hq => and_congr_right fun _ =>
    and_congr_right fun hj => (Active.lt_writesDone ?_ hj).symm
  exact (List.getElem?_eq_some_iff.mp hq).1

theorem State.abandonJob_eq (ha : s.active = some a) (k : Nat) : ∃ buffer, s.abandonJob k =
    (writeBursts a.bank a.dest (s.writesTo a (s.jobChunks a) k) { s with buffer := buffer }).port (s.jobOps.take k) := by
  simp only [State.abandonJob, State.jobOps, ha, Option.elim_some]
  exact ⟨_, rfl⟩

theorem State.abandonJob_port (s : State) (k : Nat) : (s.abandonJob k).stackPort = s.stackPort ++ s.jobOps.take k := by
  cases ha : s.active with
  | none => simp [State.abandonJob, State.jobOps, ha]
  | some a =>
    obtain ⟨buffer, shape⟩ := State.abandonJob_eq ha k
    rw [shape, State.port, writeBursts_frame]

theorem State.abandonJob_none (h : s.jobOps = []) : (s.abandonJob k).stack = s.stack ∧ (s.abandonJob k).buffer = s.buffer := by
  cases ha : s.active with
  | none => simp [State.abandonJob, ha]
  | some a =>
    have chunks : s.jobChunks a = [] := by
      cases hq : s.jobChunks a with
      | nil => rfl
      | cons q qs => simp [State.jobOps, ha, hq, Active.chunkOps] at h
    simp [State.abandonJob, ha, chunks, State.bufferAfter, writeBursts, State.port]

/-- The bursts of the stack after the job is abandoned. -/
theorem State.abandonJob_read (ha : s.active = some a) (k : Nat) : ∃ buffer, ∀ b p c, (s.abandonJob k).readBurst b p c =
    (writeBursts a.bank a.dest (s.writesTo a (s.jobChunks a) k) { s with buffer := buffer }).readBurst b p c := by
  obtain ⟨buffer, shape⟩ := State.abandonJob_eq ha k
  refine ⟨buffer, fun b p c => ?_⟩
  rw [State.readBurst, shape, State.port_stack]
  rfl

theorem State.abandonJob_wrote (hwf : s.stackOk) (ha : s.active = some a) {c : Col} (hc : s.abandonedWrite a k c) :
    (s.abandonJob k).readBurst a.bank a.dest c = (checkBurst (s.readBurst a.bank a.source c)).written := by
  obtain ⟨buffer, read⟩ := State.abandonJob_read ha k
  rw [read, State.writesTo_eq]
  exact writeBursts_read_of_fun (fun c => (checkBurst (s.readBurst a.bank a.source c)).written) _ hwf (State.abandonedWrite_iff.mp hc)

theorem State.abandonJob_kept (ha : s.active = some a) {b : Bank} {p : PRow} {c : Col}
    (h : ¬ (b = a.bank ∧ p = a.dest ∧ s.abandonedWrite a k c)) : (s.abandonJob k).readBurst b p c = s.readBurst b p c := by
  obtain ⟨buffer, read⟩ := State.abandonJob_read ha k
  rw [read, State.writesTo_eq, writeBursts_read_of_ne]
  · rfl
  · intro w hw he
    obtain ⟨d, hd, rfl⟩ := List.mem_map.mp hw
    simp only [Prod.mk.injEq] at he
    obtain ⟨rfl, rfl, rfl⟩ := he
    exact h ⟨rfl, rfl, State.abandonedWrite_iff.mpr hd⟩

/-! ### Part reset -/

theorem State.resetPart_port (s : State) (n : Nat) (m : Byte) (k : Nat) (l : List (Bank × Nat)) : (s.resetPart n m k l).stackPort =
    s.stackPort ++ s.jobOps.take k ++ allBanks.flatMap fun b => ((s.bank b).refreshing.map (StackOp.refreshRow b)).take ((l.lookup b).getD 0) := by
  have bank (b : Bank) : (s.abandonJob k).bank b = s.bank b := State.bank_eq_of_banks_eq (by rw [State.abandonJob_frame]) b
  show (s.abandonJob k).stackPort ++ _ = _
  simp only [State.abandonJob_port, bank, List.map_take]

/-- Settles O52: the job abandoned, the refreshes, the torn slot, and the reset values of the rest. -/
theorem partReset : Obligations.PartReset := by
  intro n m k l s
  dsimp only
  have jobOps : (s.active.elim [] fun a => (if (s.bank a.bank).shadow = .claimed .copy then a.chunk.toList
      else if (s.bank a.bank).shadow = .claimed .final then (List.finRange 8).filter fun c : Chunk => a.mask.get c
      else []).flatMap a.chunkOps) = s.jobOps := by
    simp only [State.jobOps, State.jobChunks_eq]
  refine ⟨⟨s.tornFuses n m, (s.abandonJob k).stack, Vector.ofFn fun i => { (s.abandonJob k).buffer.get i with poison := false },
    ?_, fun hp => ?_, fun p hp => ?_, fun h => ?_, fun i => ?_, fun hwf a ha => ⟨fun c hc => ?_, fun b r c h => ?_⟩⟩, fun h => ?_, fun h => ?_⟩
  · rw [jobOps]
    show Host.Outcome.next (s.resetPart n m k l) = _
    rw [State.resetPart_frame, State.resetPart_port]
    rfl
  · rw [State.tornFuses, hp]
  · have torn : s.tornFuses n m = s.fuses.set p.slot.val (tornSlot p.entry n m) p.slot.isLt := by rw [State.tornFuses, hp]
    exact ⟨torn, by rw [torn, vget_set_self]; exact classify_tornSlot ..⟩
  · obtain ⟨stack, buffer⟩ := State.abandonJob_none (k := k) (jobOps ▸ h)
    exact ⟨stack, by rw [buffer]⟩
  · rw [vget_eq, Vector.getElem_ofFn]
  · rw [← State.jobChunks_eq] at hc
    exact State.abandonJob_wrote hwf ha hc
  · rw [← State.jobChunks_eq] at h
    exact State.abandonJob_kept ha h
  · exact if_pos h
  · exact if_neg h

end

end Sys2Proof.Machine
end

section
/-! The read requests: what each answer holds, byte by byte (O36). -/
namespace Sys2Proof.Machine
open Sys2Proof

section
variable {s : State} {x : BankState} {b : Bank} {r : LRow}

/-! ### Counts over the table -/

/-- The code of a record state tells the states apart (Table 11-6). -/
theorem RecState.code_eq_iff (st : RecState) : (decide (st.code = 0x01) = match st with | .migrating _ => true | _ => false)
    ∧ (decide (st.code = 0x02) = decide (st = .steered))
    ∧ (decide (st.code = 0x03) = match st with | .sealing _ => true | _ => false)
    ∧ (decide (st.code = 0x04) = match st with | .fused _ => true | _ => false)
    ∧ (decide (st.code = 0x05) = decide (st = .returning)) := by
  cases st <;> exact ⟨rfl, rfl, rfl, rfl, rfl⟩

/-- How many records satisfy `p`, in two bytes. -/
def State.recordsField (s : State) (p : RecState → Bool) : List Byte :=
  twoBytes (allBanks.map fun b => (List.finRange 8).countP fun d => ((s.bank b).records.get d).any fun e => p e.state).sum

/-- How many spares satisfy `p`, in two bytes. -/
def State.sparesField (s : State) (p : SpareState → Bool) : List Byte :=
  twoBytes (allBanks.map fun b => (List.finRange 8).countP fun d => p ((s.bank b).spares.get d)).sum

theorem State.recCounts_eq (s : State) : s.recCounts =
    s.recordsField (fun st => match st with | .migrating _ => true | _ => false) ++ s.recordsField (fun st => decide (st = .steered))
      ++ s.recordsField (fun st => match st with | .sealing _ => true | _ => false)
      ++ s.recordsField (fun st => match st with | .fused _ => true | _ => false) ++ s.recordsField (fun st => decide (st = .returning)) := by
  have field (c : Byte) (p : RecState → Bool) (h : ∀ st : RecState, decide (st.code = c) = p st) :
      twoBytes (s.countRecs fun st => st.code = c) = s.recordsField p := by
    rw [State.countRecs_eq]
    simp only [h]
    rfl
  simp only [State.recCounts, List.flatMap_cons, List.flatMap_nil, List.append_nil, List.append_assoc]
  rw [field 0x01 _ fun st => (RecState.code_eq_iff st).1, field 0x02 _ fun st => (RecState.code_eq_iff st).2.1,
    field 0x03 _ fun st => (RecState.code_eq_iff st).2.2.1, field 0x04 _ fun st => (RecState.code_eq_iff st).2.2.2.1,
    field 0x05 _ fun st => (RecState.code_eq_iff st).2.2.2.2]

theorem State.freeSpares_eq (s : State) : s.freeSpares = s.sparesField fun v => decide (v = .free) := by
  rw [State.freeSpares, State.countSpares_eq]
  rfl

theorem State.badSpares_eq (s : State) : s.badSpares = s.sparesField fun v => match v with | .bad _ => true | _ => false := by
  have bad (v : SpareState) : (decide (v = .bad false) || decide (v = .bad true)) = match v with | .bad _ => true | _ => false := by
    rcases v with _ | _ | (_ | _) <;> rfl
  rw [State.badSpares, State.countSpares_eq]
  simp only [bad]
  rfl

/-! ### LIST -/

theorem BankState.mem_recList {d : Spare} {e : Rec} : (d, e) ∈ x.recList ↔ x.records.get d = some e := by
  simp [BankState.recList]

theorem BankState.recList_length (x : BankState) : x.recList.length = (List.finRange 8).countP fun d => (x.records.get d).isSome := by
  rw [BankState.recList, List.length_filterMap_eq_countP]
  simp only [Option.isSome_map]

/-- A spare that a record names as its from-spare (R4, R159). -/
theorem BankState.spareEntry_from (ht : x.tableOk) {d d' : Spare} {e : Rec} {o : Bool} (he : x.records.get d' = some e)
    (hs : e.state = .migrating (some (d, o))) : x.spareEntry d = 0x09 :: twoBytes e.row.val := by
  obtain ⟨-, held, empty, unique⟩ := ht
  have names : x.fromSpare d' = some d := by simp [BankState.fromSpare, he, hs, RecState.old]
  have isHeld : x.spares.get d = .held := (held d).mpr (.inr ⟨d', names⟩)
  have found : x.recList.find? (fun y => y.2.state.old.any fun o => o.1 = d) = some (d', e) := by
    cases hf : x.recList.find? (fun y => y.2.state.old.any fun o => o.1 = d) with
    | none =>
      refine absurd (List.find?_eq_none.mp hf _ (BankState.mem_recList.mpr he)) ?_
      simp [hs, RecState.old]
    | some y =>
      obtain ⟨d2, e2⟩ := y
      have hm := BankState.mem_recList.mp (List.mem_of_find?_eq_some hf)
      have named : (e2.state.old.any fun o => decide (o.1 = d)) = true :=
        List.find?_some (p := fun y : Spare × Rec => y.2.state.old.any fun o => o.1 = d) hf
      have same : x.fromSpare d2 = some d := by
        cases ho : e2.state.old with
        | none => rw [ho] at named; cases named
        | some o2 =>
          rw [ho] at named
          simp [BankState.fromSpare, hm, ho, of_decide_eq_true named]
      obtain rfl := unique d2 d' (by rw [same]; rfl) (same.trans names.symm)
      rw [hm] at he
      rw [Option.some.inj he]
  rw [BankState.spareEntry, isHeld]
  simp only [BankState.namedBy, empty d' d names, found]
  rfl

/-- Every spare is of one of the kinds that LIST tells apart. -/
theorem BankState.spareEntry_unique (ht : x.tableOk) (spare : Spare → List Byte)
    (free : ∀ d, x.spares.get d = .free → spare d = [0x00, 0x00, 0x00])
    (bad : ∀ d v, x.spares.get d = .bad v → spare d = [if v then 0x06 else 0x02, 0x00, 0x00])
    (own : ∀ d e, x.records.get d = some e → spare d = 0x01 :: twoBytes e.row.val)
    (asFrom : ∀ d d' e o, x.records.get d' = some e → e.state = .migrating (some (d, o)) → spare d = 0x09 :: twoBytes e.row.val) :
    x.spareEntry = spare := by
  funext d
  cases hv : x.spares.get d with
  | free => rw [free d hv, BankState.spareEntry_free hv]
  | bad v => rw [bad d v hv, BankState.spareEntry_bad hv]
  | held =>
    obtain ⟨-, held, -⟩ := id ht
    rcases (held d).mp hv with hd | ⟨d', hf⟩
    · obtain ⟨e, he⟩ := Option.isSome_iff_exists.mp hd
      rw [own d e he, BankState.spareEntry_named hv he]
    · obtain ⟨e, he, hold⟩ := Option.bind_eq_some_iff.mp hf
      obtain ⟨⟨f, o⟩, ho, rfl⟩ := Option.map_eq_some_iff.mp hold
      have hs : e.state = .migrating (some (f, o)) := by
        cases hst : e.state <;> rw [hst] at ho <;> simp_all [RecState.old]
      rw [asFrom _ d' e o he hs, BankState.spareEntry_from ht he hs]

theorem listContents_eq (b : Bank) (x : BankState) : listContents b x =
    byteOf ((List.finRange 8).countP fun d => (x.records.get d).isSome)
      :: ((List.finRange 8).flatMap (fun d => (x.records.get d).elim [] (recEntry b d)) ++ (List.finRange 8).flatMap x.spareEntry) := by
  rw [listContents, BankState.recList_length, BankState.recList_flatMap]

/-! ### LOOKUP -/

/-- The place of a key's first job in the migration queue (R158). -/
theorem queuePlace_eq_some {q l l' : List (Bank × LRow)} (hq : q = l ++ (b, r) :: l') (hn : (b, r) ∉ l) :
    queuePlace q b r = some (l.length + 1) := by
  have first : q.idxOf? (b, r) = some l.length := by
    rw [List.idxOf?_eq_some_iff, hq]
    refine ⟨by simp, by simp, fun j hj => ?_⟩
    rw [List.getElem_append_left hj]
    exact fun h => hn (h ▸ List.getElem_mem hj)
  rw [queuePlace, first]
  rfl

theorem queuePlace_eq_none {q : List (Bank × LRow)} (hn : (b, r) ∉ q) : queuePlace q b r = none := by
  rw [queuePlace, List.idxOf?_eq_none_iff.mpr hn]
  rfl

/-- In a list without two suspects of one key, a suspect stands where it is found (R124, R158). -/
theorem idxOf_suspect {l l' : List Suspect} {e : Suspect} (h : ((l ++ e :: l').map fun e => (e.bank, e.row)).Nodup) :
    (∀ f ∈ l, ¬ (f.bank = e.bank ∧ f.row = e.row)) ∧ (l ++ e :: l').idxOf e = l.length := by
  have other : ∀ f ∈ l, ¬ (f.bank = e.bank ∧ f.row = e.row) := by
    intro f hf ⟨hb, hr⟩
    rw [List.map_append, List.map_cons, List.nodup_append] at h
    obtain ⟨-, -, disjoint⟩ := h
    exact disjoint _ (List.mem_map_of_mem hf) _ List.mem_cons_self (by rw [hb, hr])
  refine ⟨other, ?_⟩
  rw [List.idxOf_append, if_neg fun hm => other e hm ⟨rfl, rfl⟩, List.idxOf_cons_self, Nat.zero_add]

/-- What LOOKUP found of a key: its record, its place in the migration queue from 0, and its suspect with its place in the list. -/
structure LooksUp (s : State) (b : Bank) (r : LRow) (record : Option (Spare × Rec)) (place : Option Nat) (suspect : Option (Nat × Suspect)) :
    Prop where
  found : (s.bank b).recOf r = record
  queued : queuePlace s.migQueue b r = place.map (· + 1)
  listed : suspectOf s.suspectList b r = suspect.map Prod.snd
  index : ∀ n e, suspect = some (n, e) → s.suspectList.idxOf e = n

theorem LooksUp.of_lists {record : Option (Spare × Rec)} {place : Option Nat} {suspect : Option (Nat × Suspect)} (hl : s.listsOk)
    (ht : (s.bank b).tableOk)
    (hrec : record = none ∧ (s.bank b).noRecord r ∨ ∃ d e, record = some (d, e) ∧ (s.bank b).records.get d = some e ∧ e.row = r)
    (hplace : place = none ∧ (b, r) ∉ s.migQueue ∨ ∃ l l', place = some l.length ∧ s.migQueue = l ++ (b, r) :: l' ∧ (b, r) ∉ l)
    (hsus : suspect = none ∧ (∀ e ∈ s.suspectList, ¬ (e.bank = b ∧ e.row = r))
      ∨ ∃ l e l', suspect = some (l.length, e) ∧ s.suspectList = l ++ e :: l' ∧ e.bank = b ∧ e.row = r) :
    LooksUp s b r record place suspect := by
  obtain ⟨-, -, -, keys, -, -⟩ := hl
  refine ⟨?_, ?_, ?_, ?_⟩
  · rcases hrec with ⟨rfl, h⟩ | ⟨d, e, rfl, he, hr⟩
    · exact BankState.recOf_eq_none.mpr h
    · exact BankState.recOf_eq ht he hr
  · rcases hplace with ⟨rfl, h⟩ | ⟨l, l', rfl, hq, hn⟩
    · exact queuePlace_eq_none h
    · exact queuePlace_eq_some hq hn
  · rcases hsus with ⟨rfl, h⟩ | ⟨l, e, l', rfl, hq, rfl, rfl⟩
    · exact suspectOf_eq_none.mpr h
    · rw [hq] at keys ⊢
      exact suspectOf_eq (idxOf_suspect keys).1
  · rintro n e rfl
    rcases hsus with ⟨h, -⟩ | ⟨l, e', l', h, hq, -⟩
    · cases h
    · cases h
      rw [hq] at keys ⊢
      exact (idxOf_suspect keys).2

/-- The answer of LOOKUP (R158, R178). -/
theorem LooksUp.contents {record : Option (Spare × Rec)} {place : Option Nat} {suspect : Option (Nat × Suspect)}
    (h : LooksUp s b r record place suspect) : s.lookupContents b r =
      byteOf ((if record = none then 0 else 1) + (if suspect = none then 0 else 2) + (if place = none then 0 else 4)
          + (if s.active.any (fun a => decide (a.bank = b ∧ a.row = r)) then 8 else 0))
        :: (record.elim [] (fun y => recEntry b y.1 y.2) ++ place.elim [] (fun n => [byteOf (n + 1)])
          ++ suspect.elim [] fun y => y.2.bytes ++ [byteOf (y.1 + 1)]) := by
  have active : s.isActive b r = s.active.any fun a => decide (a.bank = b ∧ a.row = r) := by
    simp only [State.isActive, Bool.decide_and]
  obtain ⟨hrec, hplace, hsus, index⟩ := h
  simp only [State.lookupContents, hrec, hplace, hsus, active]
  rcases suspect with _ | ⟨n, e⟩
  · cases record <;> cases place <;> rfl
  · rw [Option.map_some, Option.map_some, index n e rfl]
    cases record <;> cases place <;> rfl

/-! ### BANK -/

theorem BankState.trackList_length (x : BankState) : x.trackList.length = (List.finRange 6).countP fun i => (x.tracker.get i).isSome := by
  rw [BankState.trackList, List.length_filterMap_eq_countP]
  simp only [Option.isSome_map]

/-- The answer to BANK: the shadow state in six bytes, and the rest (R160, R178). -/
theorem BankState.contents_eq (x : BankState) : x.contents =
    [x.shadow.code] ++ twoBytes x.shadow.openRows.1 ++ twoBytes x.shadow.openRows.2 ++ [x.shadow.jobCode]
      ++ [flagByte x.revoked, byteOf x.passover, flagByte x.forced,
          match x.migClaim with | none => 0x00 | some .copy => 0x03 | some .switch => 0x04 | some .final => 0x05,
          byteOf x.lane.length]
      ++ twoBytes x.pointer ++ [byteOf x.debt, flagByte x.need] ++ twoBytes (x.slot.getD 0xFFFF)
      ++ [byteOf ((List.finRange 6).countP fun i => (x.tracker.get i).isSome)]
      ++ (List.finRange 6).flatMap (fun i => match x.tracker.get i with
          | none => []
          | some e => byteOf i.val :: (twoBytes e.row.val ++ twoBytes e.count))
      ++ [byteOf x.targets.length] ++ x.targets.flatMap (fun p => twoBytes p.val) := by
  have claim : (x.migClaim.map ClaimKind.bankCode).getD 0 =
      match x.migClaim with | none => 0x00 | some .copy => 0x03 | some .switch => 0x04 | some .final => 0x05 := by
    rcases x.migClaim with _ | (_ | _ | _) <;> rfl
  have entries : x.trackList.flatMap (fun y => byteOf y.1.val :: (twoBytes y.2.row.val ++ twoBytes y.2.count)) =
      (List.finRange 6).flatMap fun i => match x.tracker.get i with
        | none => []
        | some e => byteOf i.val :: (twoBytes e.row.val ++ twoBytes e.count) := by
    rw [x.trackList_flatMap fun i e => byteOf i.val :: (twoBytes e.row.val ++ twoBytes e.count)]
    refine congrArg (List.flatMap · (List.finRange 6)) (funext fun i => ?_)
    cases x.tracker.get i <;> rfl
  simp only [BankState.contents, claim, entries, BankState.trackList_length, List.append_assoc, List.cons_append, List.nil_append]

/-! ### The answers -/

/-- The answer to STATUS while LOADING (R150, R157). -/
theorem exec_status_loading {xn : Byte} {late : Bool} (hp : s.part = .loading) (hs : s.isServing = false) :
    exec (.status ⟨xn, late⟩) s = .next (s.answeredRead late xn .status .ok s.statusLoading) := by
  have taken := exec_requestCommand xn late .status s
  rw [State.takeRequest_loading hp hs, if_pos rfl] at taken
  refine taken.trans ?_
  have contents : s.statusContents = s.statusLoading := if_pos hp
  rw [← contents]
  exact congrArg _ (State.answer_eq ..)

/-- Settles O36: the contents of each answer as the model lays them out. -/
theorem readRequestsAnswer : Obligations.ReadRequestsAnswer := by
  intro xn late s hs opt recordEntry suspectEntry records recordCounts spares claimKind context programming u detail notice
  have optEq (o : Option (List Byte)) : opt o = optItem o := by cases o <;> rfl
  have recordEq (b : Bank) (d : Spare) (e : Rec) : recordEntry b d e = recEntry b d e := by
    obtain ⟨r, st, o, p⟩ := e
    rcases st with (_ | ⟨f, _ | _⟩) | _ | _ | _ | _ <;> cases o <;> rfl
  have contextEq : context = Active.bytes := by
    funext a
    have kindEq : (if a.kind = .move then (0x00 : Byte) else 0x01) = a.kind.code := by cases a.kind <;> rfl
    simp only [context, optEq, kindEq, Active.bytes, maskBytes, List.append_assoc, List.cons_append, List.nil_append]
  have programmingEq : programming = fun p => byteOf p.slot.val :: p.entry.statusBytes := by
    funext p
    obtain ⟨n, e⟩ := p
    cases e <;> rfl
  have detailEq : detail = Detail.bytes := by
    funext d
    cases d with
    | shadow x => rcases x with _ | _ | (_ | _ | _ | _ | _) <;> rfl
    | faulty k c n => cases k <;> rfl
    | origin o => cases o <;> rfl
    | fault r g => exact congrArg (r.code :: ·) (optEq _)
    | phys | spare | slot | evicted | poison | load => rfl
  have noticeEq : notice = fun k => byteOf (k.index.val + 1) :: (s.notice k).bytes := by
    funext k
    simp only [notice, optEq, detailEq]
    rfl
  have claimEq : claimKind = ClaimKind.statusCode := by
    funext k
    cases k <;> rfl
  have countsEq : recordCounts = s.recCounts := (State.recCounts_eq s).symm
  have answered {q : Request} {c : Call} {l l' : List Byte} (hp : s.part = .running) (hq : q.changing = false) (hc : checkRequest q = .ok c)
      (hv : s.serve c = (s, .ok, l)) (hl : l = l') : exec (requestCommand xn late q) s = .next (s.answeredRead late xn q .ok l') :=
    (exec_read hp hs hq hc hv).trans (by rw [hl])
  refine ⟨fun hp => ?_, fun hp => ⟨?_, fun b ht spare free bad own asFrom => ?_, fun b => ?_, ?_, fun n => ?_, fun v i hi => ?_, ?_,
    fun b r record place suspect hl ht hrec hplace hsus => ?_⟩⟩
  · rw [exec_status_loading hp hs, State.statusLoading, hp, State.freeSpares_eq, ← countsEq]
    rfl
  · refine answered (q := .status) hp rfl rfl rfl ?_
    rw [State.statusContents, if_neg (by rw [hp]; decide)]
    simp only [optEq, contextEq, programmingEq, claimEq, countsEq]
    simp only [State.statusRunning, hp, LoadSummary.bytes, programmerBytes, if_true, State.freeSpares_eq, State.badSpares_eq,
      State.notReported_eq, List.append_assoc, List.cons_append, List.nil_append, Option.map_bind, State.placedClaim]
    rfl
  · refine answered (q := .list (bankByte b)) (c := .list b) hp rfl (by rw [checkRequest, bankField_bankByte]; rfl) rfl ?_
    rw [listContents_eq, BankState.spareEntry_unique ht spare free bad own asFrom]
    refine congrArg (_ :: ·) (congrArg (· ++ _) (congrArg (List.flatMap · (List.finRange 8)) (funext fun d => ?_)))
    cases (s.bank b).records.get d with
    | none => rfl
    | some e => exact (recordEq b d e).symm
  · refine answered (q := .bank (bankByte b)) (c := .bank b) hp rfl (by rw [checkRequest, bankField_bankByte]; rfl) rfl ?_
    rw [BankState.contents_eq]
    cases (s.bank b).shadow with
    | closed | opened r p => rfl
    | claimed k => cases k <;> rfl
  · exact answered (q := .suspects) hp rfl rfl rfl rfl
  · refine answered (q := .fuse (byteOf n.val)) (c := .fuse n) hp rfl ?_ rfl ?_
    · rw [checkRequest, (toFin?_byte (by omega)).mpr rfl]
      rfl
    · rw [State.fuseContents]
      rcases s.image.get n with _ | (⟨b, r, d⟩ | ⟨b, d⟩) | _ | e <;> rfl
  · exact answered (q := .get v) (c := .get i) hp rfl (by rw [checkRequest, hi]; rfl) rfl rfl
  · refine answered (q := .noticeTop) hp rfl rfl rfl ?_
    rw [State.noticeTopContents, optEq, noticeEq]
  · have checked : checkRequest (.lookup (bankByte b) (rowWord r)) = .ok (.lookup b r) := by
      rw [checkRequest, bankField_bankByte, rowOf_rowWord]
      rfl
    have looked := LooksUp.of_lists hl ht hrec hplace hsus
    by_cases h : record = none ∧ suspect = none
    · rw [if_pos h]
      refine exec_read (q := .lookup _ _) hp hs rfl checked ?_
      simp [State.serve, State.serveLookup, looked.found, looked.listed, h.1, h.2]
    · rw [if_neg h]
      refine answered (q := .lookup _ _) (l := s.lookupContents b r) hp rfl checked ?_ ?_
      · have found : record.isSome = true ∨ suspect.isSome = true := by
          cases record <;> cases suspect <;> simp_all
        simp [State.serve, State.serveLookup, looked.found, looked.listed, found]
      · rw [looked.contents]
        refine congrArg (byteOf _ :: ·) (congrArg₂ (· ++ ·) (congrArg₂ (· ++ ·) ?_ ?_) ?_)
        · cases record with
          | none => rfl
          | some y => exact (recordEq b y.1 y.2).symm
        · cases place <;> rfl
        · cases suspect <;> rfl

end

end Sys2Proof.Machine
end

section
/-! The check code: a distance of four, and what a stored word is judged to be (O54). -/
namespace Sys2Proof.Machine
open Sys2Proof

/-! ### Counts of bits -/

/-- Whether a number is odd. -/
def odd (n : Nat) : Bool := decide (n % 2 = 1)

theorem odd_add (m n : Nat) : odd (m + n) = xor (odd m) (odd n) := by
  have hm := Nat.mod_two_eq_zero_or_one m
  have hn := Nat.mod_two_eq_zero_or_one n
  rcases hm with hm | hm <;> rcases hn with hn | hn <;> simp [odd, Nat.add_mod, hm, hn]

theorem odd_countP_cons {α : Type} (p : α → Bool) (a : α) (l : List α) : odd ((a :: l).countP p) = xor (p a) (odd (l.countP p)) := by
  rw [List.countP_cons, odd_add, Bool.xor_comm]
  cases p a <;> rfl

/-- How many of the lowest `n` bits of a word are set. -/
def onesBelow {m : Nat} (w : BitVec m) (n : Nat) : Nat := (List.finRange n).countP fun i => w.getLsbD i.val

theorem onesBelow_succ {m : Nat} (w : BitVec m) (n : Nat) : onesBelow w (n + 1) = (if w.getLsbD n then 1 else 0) + onesBelow w n := by
  rw [onesBelow, List.finRange_succ_last, List.countP_append, List.countP_map, List.countP_singleton, Nat.add_comm]
  rfl

theorem bitsSet_eq {m : Nat} (w : BitVec m) (n : Nat) : bitsSet w n = onesBelow w n := by
  induction n with
  | zero => rfl
  | succ n ih => rw [bitsSet, ih, onesBelow_succ]

theorem parityOf_eq {m : Nat} (w : BitVec m) (n : Nat) : parityOf w n = odd (onesBelow w n) := by
  induction n with
  | zero => rfl
  | succ n ih =>
    rw [parityOf, ih, onesBelow_succ, odd_add]
    cases w.getLsbD n <;> rfl

/-! ### Exclusive-ors -/

theorem parityOf_xor {m : Nat} (v w : BitVec m) (n : Nat) : parityOf (v ^^^ w) n = xor (parityOf v n) (parityOf w n) := by
  induction n with
  | zero => rfl
  | succ n ih =>
    rw [parityOf, parityOf, parityOf, ih, BitVec.getLsbD_xor]
    simp only [Bool.xor_assoc, Bool.xor_left_comm]

theorem getLsbD_bit {m i : Nat} (h : i < m) (j : Nat) : (1#m <<< i).getLsbD j = decide (j = i) := by
  rw [← BitVec.twoPow_eq, BitVec.getLsbD_twoPow]
  by_cases hj : j = i
  · subst hj; simp [h]
  · simp [hj, Ne.symm hj]

/-- A word with one bit set has an odd number of bits set. -/
theorem parityOf_bit {m i : Nat} (h : i < m) (n : Nat) : parityOf (1#m <<< i) n = decide (i < n) := by
  induction n with
  | zero => rfl
  | succ n ih =>
    rw [parityOf, ih, getLsbD_bit h]
    rcases lt_trichotomy n i with hn | rfl | hn
    · rw [decide_eq_false (by omega), decide_eq_false (by omega), decide_eq_false (by omega)]; rfl
    · rw [decide_eq_true rfl, decide_eq_false (by omega), decide_eq_true (by omega)]; rfl
    · rw [decide_eq_false (by omega), decide_eq_true hn, decide_eq_true (by omega)]; rfl

/-- The columns of the set bits of a word among a list of bits, exclusive-ored onto a start. -/
def xorColumns (w : BitVec 64) (l : List (Fin 64)) (acc : BitVec 7) : BitVec 7 :=
  l.foldl (fun acc i => if w.getLsbD i.val then acc ^^^ columnOf i else acc) acc

theorem xorColumns_cons (w : BitVec 64) (i : Fin 64) (l : List (Fin 64)) (acc : BitVec 7) :
    xorColumns w (i :: l) acc = xorColumns w l (if w.getLsbD i.val then acc ^^^ columnOf i else acc) := rfl

theorem checkBits_eq (w : BitVec 64) : checkBits w = xorColumns w (List.finRange 64) 0 := rfl

theorem xorColumns_xor (v w : BitVec 64) (l : List (Fin 64)) (a b : BitVec 7) :
    xorColumns (v ^^^ w) l (a ^^^ b) = xorColumns v l a ^^^ xorColumns w l b := by
  induction l generalizing a b with
  | nil => rfl
  | cons i l ih =>
    have step : (if (v ^^^ w).getLsbD i.val then (a ^^^ b) ^^^ columnOf i else a ^^^ b)
        = (if v.getLsbD i.val then a ^^^ columnOf i else a) ^^^ (if w.getLsbD i.val then b ^^^ columnOf i else b) := by
      rw [BitVec.getLsbD_xor]
      cases v.getLsbD i.val <;> cases w.getLsbD i.val
      · rfl
      · exact BitVec.xor_assoc ..
      · show a ^^^ b ^^^ columnOf i = a ^^^ columnOf i ^^^ b
        ac_rfl
      · show a ^^^ b = a ^^^ columnOf i ^^^ (b ^^^ columnOf i)
        have same : columnOf i ^^^ columnOf i = 0#7 := BitVec.xor_self
        rw [show a ^^^ columnOf i ^^^ (b ^^^ columnOf i) = a ^^^ b ^^^ (columnOf i ^^^ columnOf i) by ac_rfl, same, BitVec.xor_zero]
    rw [xorColumns_cons, xorColumns_cons, xorColumns_cons, step, ih]

theorem checkBits_xor (v w : BitVec 64) : checkBits (v ^^^ w) = checkBits v ^^^ checkBits w := xorColumns_xor v w _ 0 0

theorem xorColumns_getLsbD (w : BitVec 64) (l : List (Fin 64)) (acc : BitVec 7) (j : Nat) : (xorColumns w l acc).getLsbD j =
    xor (acc.getLsbD j) (odd (l.countP fun i => w.getLsbD i.val && (columnOf i).getLsbD j)) := by
  induction l generalizing acc with
  | nil => simp [xorColumns, odd]
  | cons i l ih =>
    rw [xorColumns_cons, ih, odd_countP_cons]
    cases w.getLsbD i.val with
    | false => rw [if_neg Bool.false_ne_true, Bool.false_and, Bool.false_xor]
    | true => rw [if_pos rfl, BitVec.getLsbD_xor, Bool.true_and, Bool.xor_assoc]

/-- Check bit j below 7 (R180). -/
theorem checkBits_getLsbD (w : BitVec 64) (j : Nat) :
    (checkBits w).getLsbD j = odd ((List.finRange 64).countP fun i => w.getLsbD i.val && (columnOf i).getLsbD j) := by
  rw [checkBits_eq, xorColumns_getLsbD]
  simp

/-! ### The columns -/

theorem columnOf_lt {i j : Fin 64} (h : i < j) : (columnOf i).toNat < (columnOf j).toNat := by
  have sorted : ∀ i j : Fin 64, i < j → (columnOf i).toNat < (columnOf j).toNat := by decide
  exact sorted i j h

theorem columnOf_injective {i j : Fin 64} (h : columnOf i = columnOf j) : i = j := by
  rcases lt_trichotomy i j with hij | hij | hij
  · exact absurd (congrArg BitVec.toNat h) (Nat.ne_of_lt (columnOf_lt hij))
  · exact hij
  · exact absurd (congrArg BitVec.toNat h) (Nat.ne_of_gt (columnOf_lt hij))

theorem two_le_ones_columnOf (i : Fin 64) : 2 ≤ onesBelow (columnOf i) 7 := by
  revert i
  decide

theorem checkBits_bit (i : Fin 64) : checkBits (1#64 <<< i.val) = columnOf i := by
  revert i
  decide

theorem columnBit_eq_some {y : BitVec 7} {i : Fin 64} : columnBit y = some i ↔ y = columnOf i := by
  constructor
  · intro h
    exact (of_decide_eq_true (List.find?_some (p := fun i => decide (columnOf i = y)) h)).symm
  · rintro rfl
    exact find_finRange_unique (by simp) fun j hj => columnOf_injective (of_decide_eq_true hj)

theorem columnBit_eq_none {y : BitVec 7} : columnBit y = none ↔ ∀ i, y ≠ columnOf i := by
  rw [columnBit, find_finRange_none]
  simp [eq_comm]

/-- The columns leave no number of two or more bits set below the last (R180). -/
theorem mem_columns {y : BitVec 7} (h : 2 ≤ onesBelow y 7) {i : Fin 64} (hi : y.toNat ≤ (columnOf i).toNat) : ∃ i, columnOf i = y := by
  have last : ∀ i : Fin 64, (columnOf i).toNat < 72 := by decide
  have all : ∀ n : Fin 72, 2 ≤ onesBelow (BitVec.ofNat 7 n.val) 7 → (columnBit (BitVec.ofNat 7 n.val)).isSome = true := by decide
  have found := all ⟨y.toNat, lt_of_le_of_lt hi (last i)⟩
  simp only [BitVec.ofNat_toNat, BitVec.setWidth_eq] at found
  obtain ⟨j, hj⟩ := Option.isSome_iff_exists.mp (found h)
  exact ⟨j, (columnBit_eq_some.mp hj).symm⟩

/-! ### Check bytes and syndromes -/

theorem checkByte_getLsbD (w : BitVec 64) {j : Nat} (hj : j < 7) : (checkByte w).getLsbD j = (checkBits w).getLsbD j := by
  show (BitVec.ofBool _ ++ checkBits w : BitVec (1 + 7)).getLsbD j = _
  rw [BitVec.getLsbD_append, if_pos hj]

theorem checkByte_parity (w : BitVec 64) : (checkByte w).getLsbD 7 = xor (parityOf w 64) (parityOf (checkBits w) 7) := by
  show (BitVec.ofBool _ ++ checkBits w : BitVec (1 + 7)).getLsbD 7 = _
  rw [BitVec.getLsbD_append, if_neg (by decide)]
  simp

theorem parityOf_congr {m n k : Nat} {v : BitVec m} {w : BitVec n} (h : ∀ j, j < k → v.getLsbD j = w.getLsbD j) :
    parityOf v k = parityOf w k := by
  induction k with
  | zero => rfl
  | succ k ih => rw [parityOf, parityOf, h k (by omega), ih fun j hj => h j (by omega)]

theorem syndrome_eq (v : CodeWord) : syndrome v = (v.check ^^^ checkByte v.data).extractLsb' 0 7 := by
  refine BitVec.eq_of_getLsbD_eq fun j hj => ?_
  rw [syndrome, BitVec.getLsbD_xor, ← checkByte_getLsbD _ hj]
  simp [hj]

theorem storedParity_eq (v : CodeWord) : storedParity v = odd (onesBelow v.data 64 + onesBelow v.check 8) := by
  rw [storedParity, parityOf_eq, parityOf_eq, odd_add]

/-- A data word with the check byte generated for it. -/
def codeWord (w : BitVec 64) : CodeWord := { data := w, check := checkByte w }

theorem syndrome_codeWord (w : BitVec 64) : syndrome (codeWord w) = 0#7 := by
  rw [syndrome_eq]
  show (checkByte w ^^^ checkByte w).extractLsb' 0 7 = 0#7
  rw [BitVec.xor_self]
  rfl

theorem storedParity_codeWord (w : BitVec 64) : storedParity (codeWord w) = false := by
  have low : parityOf (checkByte w) 7 = parityOf (checkBits w) 7 := parityOf_congr fun j hj => checkByte_getLsbD w hj
  show xor (parityOf w 64) (xor ((checkByte w).getLsbD 7) (parityOf (checkByte w) 7)) = false
  rw [checkByte_parity, low]
  simp

/-- The column of each of the 72 stored bits: a check bit's below the last is the bit alone, and the last has none. -/
def storedColumn (i : Fin 72) : BitVec 7 :=
  if h : i.val < 64 then columnOf ⟨i.val, h⟩ else 1#7 <<< (i.val - 64)

theorem flipBit_data (v : CodeWord) {i : Fin 72} (h : i.val < 64) : flipBit v i = { v with data := v.data ^^^ (1#64 <<< i.val) } := if_pos h

theorem flipBit_check (v : CodeWord) {i : Fin 72} (h : ¬ i.val < 64) : flipBit v i = { v with check := v.check ^^^ (1#8 <<< (i.val - 64)) } :=
  if_neg h

/-- One bit inverted adds its column to the syndrome. -/
theorem syndrome_flipBit (v : CodeWord) (i : Fin 72) : syndrome (flipBit v i) = syndrome v ^^^ storedColumn i := by
  by_cases h : i.val < 64
  · rw [flipBit_data v h, storedColumn, dif_pos h, ← checkBits_bit ⟨i.val, h⟩, syndrome, syndrome, checkBits_xor, BitVec.xor_assoc]
  · rw [flipBit_check v h, storedColumn, dif_neg h, syndrome, syndrome]
    refine BitVec.eq_of_getLsbD_eq fun j hj => ?_
    have bit : (1#7 <<< (i.val - 64)).getLsbD j = (1#8 <<< (i.val - 64)).getLsbD j := by
      rw [getLsbD_bit (show i.val - 64 < 8 by omega)]
      by_cases hi : i.val - 64 < 7
      · rw [getLsbD_bit hi]
      · rw [decide_eq_false (by omega), BitVec.getLsbD_shiftLeft, decide_eq_true (show j < i.val - 64 by omega)]
        simp
    simp only [BitVec.getLsbD_xor, BitVec.getLsbD_extractLsb', bit, hj, decide_true, Bool.true_and, Nat.zero_add]
    simp only [Bool.xor_assoc, Bool.xor_comm, Bool.xor_left_comm]

/-- One bit inverted changes the parity. -/
theorem storedParity_flipBit (v : CodeWord) (i : Fin 72) : storedParity (flipBit v i) = !storedParity v := by
  by_cases h : i.val < 64
  · rw [flipBit_data v h, storedParity, storedParity, parityOf_xor, parityOf_bit h, decide_eq_true h]
    simp
  · rw [flipBit_check v h, storedParity, storedParity, parityOf_xor, parityOf_bit (by omega), decide_eq_true (by omega)]
    simp

theorem storedColumn_injective {i j : Fin 72} (h : storedColumn i = storedColumn j) : i = j := by
  have different : ∀ i j : Fin 72, storedColumn i = storedColumn j → i = j := by decide
  exact different i j h

/-! ### The check of a word -/

section
variable {v : CodeWord}

theorem checkWord_even (hn : v ≠ poisonWord) (hp : storedParity v = false) :
    checkWord v = if syndrome v = 0 then .clean else .uncorrectable := by
  rw [checkWord, if_neg hn, if_neg (by rw [hp]; exact Bool.false_ne_true)]

/-- An even number of errors is never corrected, whether or not it gives the poison pattern. -/
theorem checkWord_even_ne (hp : storedParity v = false) (hy : syndrome v ≠ 0) : checkWord v = .uncorrectable := by
  by_cases hn : v = poisonWord
  · exact if_pos hn
  · rw [checkWord_even hn hp, if_neg hy]

/-- The poison pattern has even parity. -/
theorem ne_poisonWord_of_odd (hp : storedParity v = true) : v ≠ poisonWord := by
  have even : storedParity poisonWord = false := by
    rw [storedParity_eq]
    decide
  rintro rfl
  rw [even] at hp
  cases hp

theorem checkWord_checkBit (hp : storedParity v = true) (hy : onesBelow (syndrome v) 7 ≤ 1) : checkWord v = .corrected v.data := by
  rw [checkWord, if_neg (ne_poisonWord_of_odd hp), if_pos hp, bitsSet_eq, if_pos hy]

theorem checkWord_dataBit (hp : storedParity v = true) {i : Fin 64} (hy : syndrome v = columnOf i) :
    checkWord v = .corrected (v.data ^^^ (1#64 <<< i.val)) := by
  have two := two_le_ones_columnOf i
  rw [checkWord, if_neg (ne_poisonWord_of_odd hp), if_pos hp, bitsSet_eq, hy, if_neg (by omega), columnBit_eq_some.mpr rfl]

theorem checkWord_noBit (hp : storedParity v = true) (h2 : 2 ≤ onesBelow (syndrome v) 7) (hy : ∀ i, syndrome v ≠ columnOf i) :
    checkWord v = .uncorrectable := by
  rw [checkWord, if_neg (ne_poisonWord_of_odd hp), if_pos hp, bitsSet_eq, if_neg (by omega), columnBit_eq_none.mpr hy]

/-- One inverted bit is corrected. -/
theorem checkWord_flipBit (w : BitVec 64) (i : Fin 72) : checkWord (flipBit (codeWord w) i) = .corrected w := by
  have parity : storedParity (flipBit (codeWord w) i) = true := by rw [storedParity_flipBit, storedParity_codeWord]; rfl
  have syn : syndrome (flipBit (codeWord w) i) = storedColumn i := by rw [syndrome_flipBit, syndrome_codeWord, BitVec.zero_xor]
  by_cases h : i.val < 64
  · rw [checkWord_dataBit (i := ⟨i.val, h⟩) parity (by rw [syn, storedColumn, dif_pos h]), flipBit_data _ h]
    show WordCheck.corrected (w ^^^ _ ^^^ _) = _
    rw [BitVec.xor_assoc, BitVec.xor_self, BitVec.xor_zero]
  · have one : ∀ n : Fin 8, onesBelow (1#7 <<< n.val) 7 ≤ 1 := by decide
    rw [checkWord_checkBit parity, flipBit_check _ h]
    · rfl
    · rw [syn, storedColumn, dif_neg h]
      exact one ⟨i.val - 64, by omega⟩

/-- Two inverted bits are found. -/
theorem checkWord_flipBit_flipBit (w : BitVec 64) {i j : Fin 72} (h : i ≠ j) :
    checkWord (flipBit (flipBit (codeWord w) i) j) = .uncorrectable := by
  refine checkWord_even_ne ?_ fun hy => ?_
  · rw [storedParity_flipBit, storedParity_flipBit, storedParity_codeWord]
    rfl
  · rw [syndrome_flipBit, syndrome_flipBit, syndrome_codeWord, BitVec.zero_xor] at hy
    exact h (storedColumn_injective (BitVec.xor_eq_zero_iff.mp hy))

end

/-! ### The check of a burst -/

section
variable {v : Burst}

theorem burst_any {p : CodeWord → Bool} : v.toList.any p = true ↔ ∃ i : Fin 8, p (v.get i) = true := by
  rw [vector8_toList, List.any_map, List.any_eq_true]
  simp

theorem checkBurst_uncorrectable : checkBurst v = .uncorrectable ↔ ∃ i : Fin 8, checkWord (v.get i) = .uncorrectable := by
  have bad : (v.toList.any fun w => decide (checkWord w = .uncorrectable)) = true ↔ ∃ i : Fin 8, checkWord (v.get i) = .uncorrectable := by
    rw [burst_any]
    simp only [decide_eq_true_eq]
  rw [← bad, checkBurst]
  split
  · next h => exact iff_of_true rfl h
  · next h => exact iff_of_false nofun h

/-- A word as the buffer takes it, when it is taken (R76). -/
theorem goodWord_iff {w : CodeWord} {d : BitVec 64} : (checkWord w = .clean ∧ d = w.data ∨ checkWord w = .corrected d)
    ↔ checkWord w ≠ .uncorrectable ∧ d = goodWord w := by
  unfold goodWord
  cases checkWord w <;> simp [eq_comm]

theorem isCorrected_iff {x : WordCheck} : x.isCorrected = true ↔ ∃ w, x = .corrected w := by
  cases x <;> simp [WordCheck.isCorrected]

theorem checkBurst_words {d : Vector (BitVec 64) 8} {c : Bool} : checkBurst v = .words d c ↔
    (∀ i : Fin 8, checkWord (v.get i) = .clean ∧ d.get i = (v.get i).data ∨ checkWord (v.get i) = .corrected (d.get i))
      ∧ (c = true ↔ ∃ (i : Fin 8) (w : BitVec 64), checkWord (v.get i) = .corrected w) := by
  have good : checkBurst v ≠ .uncorrectable ↔ ∀ i : Fin 8, checkWord (v.get i) ≠ .uncorrectable := by
    rw [Ne, checkBurst_uncorrectable, not_exists]
  have words : (∀ i : Fin 8, d.get i = goodWord (v.get i)) ↔ Vector.ofFn (fun i => goodWord (v.get i)) = d := by
    constructor
    · intro h
      refine Vector.ext fun i hi => ?_
      rw [Vector.getElem_ofFn]
      exact (h ⟨i, hi⟩).symm
    · rintro rfl i
      rw [vget_eq, Vector.getElem_ofFn]
  have corrected : (c = true ↔ ∃ (i : Fin 8) (w : BitVec 64), checkWord (v.get i) = .corrected w)
      ↔ (v.toList.any fun w => (checkWord w).isCorrected) = c := by
    have any := burst_any (v := v) (p := fun w => (checkWord w).isCorrected)
    simp only [isCorrected_iff] at any
    rw [← any, ← Bool.eq_iff_iff, eq_comm]
  simp only [goodWord_iff, forall_and, words, corrected, ← good]
  rw [checkBurst]
  split
  · simp
  · simp

end

/-- Settles O54. -/
theorem checkCode : Obligations.CheckCode := by
  unfold Obligations.CheckCode
  intro odd ones
  refine ⟨⟨columnOf, fun i j h => columnOf_lt h, two_le_ones_columnOf, fun y h ⟨i, hi⟩ => mem_columns h hi, fun w => ⟨fun j => ?_, ?_⟩,
    fun v hv => ?_⟩, fun w => ⟨fun hw => ?_, by decide, checkWord_flipBit w, fun i j h => checkWord_flipBit_flipBit w h⟩,
    fun v => ⟨checkBurst_uncorrectable, fun d c => checkBurst_words⟩⟩
  · rw [checkByte_getLsbD w j.isLt]
    exact checkBits_getLsbD w j
  · have low : parityOf (checkByte w) 7 = parityOf (checkBits w) 7 := parityOf_congr fun j hj => checkByte_getLsbD w hj
    rw [checkByte_parity, ← low, parityOf_eq, parityOf_eq, ← odd_add]
    rfl
  · intro y parity
    have syn : syndrome v = y := syndrome_eq v
    have par : storedParity v = parity := storedParity_eq v
    rw [← syn, ← par]
    refine ⟨fun hp hy => ?_, fun hp hy => checkWord_even_ne hp hy, fun hp hy => checkWord_checkBit hp hy,
      fun i hp hy => checkWord_dataBit hp hy, fun hp h2 hy => checkWord_noBit hp h2 hy⟩
    rw [checkWord_even hv hp, if_pos hy]
  · have other : codeWord w ≠ poisonWord := fun h => hw (congrArg CodeWord.data h)
    exact (checkWord_even other (storedParity_codeWord w)).trans (if_pos (syndrome_codeWord w))

end Sys2Proof.Machine
end
